-- ==== Sys2Proof/Word.lean ====
section
/-! DEFINITION. The two width parameters, the words of their widths, and the value sets of 00_scope.md R14. -/

namespace Sys2Proof

/-- R5: the two width parameters, by the spec's names: `W_US` of a duration and of each threshold, `W_T` of a time stamp. -/
structure Widths where
  W_US : Nat
  W_T  : Nat
  deriving DecidableEq, Repr

/-- R5: the defaults the spec chooses. -/
abbrev Widths.default : Widths := ⟨16, 64⟩

/-- R5: an unsigned count of microseconds. -/
abbrev Duration (w : Widths) := BitVec w.W_US

/-- R5: a time stamp, which the block copies and never computes with. -/
abbrev TimeStamp (w : Widths) := BitVec w.W_T

abbrev Byte := BitVec 8

/-- R14, R53. -/
inductive PulseType where
  | short | medium | long | invalid
  deriving DecidableEq, Repr

/-- R14, R54: the five states of the framing machine; the codes 5 to 7 name no state (R66 a). -/
inductive FsmState where
  | waitMarkFirst | waitMarkSecond | waitMarkThird | readBitsFirst | readBitsSecond
  deriving DecidableEq, Repr

/-- R14, R55: the stored first pulse of a bit pair, or none; the code 0b01 stands for no value (R66 b). -/
inductive FirstOfPair where
  | none | short | medium
  deriving DecidableEq, Repr

/-- R39: which edges the front end pairs; read by no rule of the block. -/
inductive Polarity where
  | read | write
  deriving DecidableEq, Repr

/-- R14, R59: two labels only (90_conflicts.md C2). -/
inductive MarkerLabel where
  | byteStart | eof
  deriving DecidableEq, Repr

/-- R14, R60. -/
inductive ErrorLabel where
  | badMarker | badBitStart | badBitPair | glitch
  deriving DecidableEq, Repr

/-- R120, R121: the two recoverable classes of error. -/
inductive ErrorClass where
  | framingError | glitchError
  deriving DecidableEq, Repr

/-- R14, R57. -/
inductive EventKind where
  | pulse | marker | bit | byte | ascii | error
  deriving DecidableEq, Repr

end Sys2Proof
end

