-- ==== Sys2Proof/Config.lean ====
section
/-! DEFINITION. The session configuration of 10_state.md section 5, its defaults and its constraint; the free values. -/

namespace Sys2Proof

/-- R28: the source's `ThresholdConfig`, for a width of a duration. -/
structure Thresholds (w : Nat) where
  shortUs    : BitVec w
  mediumUs   : BitVec w
  longUs     : BitVec w
  minValidUs : BitVec w
  maxValidUs : BitVec w
  polarity   : Polarity
  deriving DecidableEq, Repr

abbrev ThresholdConfig (w : Widths) := Thresholds w.W_US

/-- R6: the five numeric defaults, in a width of at least 11 bits whole. DESIGN CHOICE (log entry 2, unsafe): the spec gives
`polarity` no default. -/
def Thresholds.default (w : Nat) : Thresholds w where
  shortUs := 390#w
  mediumUs := 540#w
  longUs := 700#w
  minValidUs := 150#w
  maxValidUs := 1200#w
  polarity := .read

/-- R6 at the default width. -/
abbrev ThresholdConfig.default : ThresholdConfig .default := Thresholds.default 16

/-- R30: both midpoints lie strictly between the edges of the valid window, in the doubled integer form. No operation
checks it: it is a premise of claims about steps (R79 a, U1; log entry 9). -/
abbrev Thresholds.Legal {w : Nat} (c : Thresholds w) : Prop :=
  2 * c.minValidUs.toNat < c.shortUs.toNat + c.mediumUs.toNat ∧
  c.shortUs.toNat + c.mediumUs.toNat < 2 * c.maxValidUs.toNat ∧
  2 * c.minValidUs.toNat < c.mediumUs.toNat + c.longUs.toNat ∧
  c.mediumUs.toNat + c.longUs.toNat < 2 * c.maxValidUs.toNat

/-- R111, U5: the values the two time stamps hold after a RESET step, which the spec leaves without a defined value.
A free value, no body (log entry 4). -/
opaque Config.freeTimeStamp (w : Widths) : Nat → TimeStamp w

end Sys2Proof
end

