-- ==== Sys2Proof/Syntax.lean ====
section
/-! DEFINITION. The 26 operations of 30_encoding.md R64, one constructor per row of opcode_table.json, and the two word formats. -/

namespace Sys2Proof

/-- R64. An operation's arguments are the bits of its word that the row's mask ignores, in the order of the word: `fop` is
`dw[4:3]`, `geMin` is `dw[2]`, `fopLow` is `dw[3]`, `state` is `dw[7:5]`, `faulted` is `cw[1]`, `rateOk` is `cw[0]`. No
meaning reads them; they are kept so that a decoded word can be written back whole. -/
inductive Instr where
  | wm1S (fop : BitVec 2) (geMin : Bool)
  | wm1M (fop : BitVec 2) (geMin : Bool)
  | wm1L (fop : BitVec 2) (geMin : Bool)
  | wm2S (fop : BitVec 2) (geMin : Bool)
  | wm2M (fop : BitVec 2) (geMin : Bool)
  | wm2L (fop : BitVec 2) (geMin : Bool)
  | wm3S (fop : BitVec 2) (geMin : Bool)
  | wm3M (fop : BitVec 2) (geMin : Bool)
  | wm3L (fop : BitVec 2) (geMin : Bool)
  | rb1S (fop : BitVec 2) (geMin : Bool)
  | rb1M (fop : BitVec 2) (geMin : Bool)
  | rb1L (fop : BitVec 2) (geMin : Bool)
  | rb2SS (geMin : Bool)
  | rb2SM (geMin : Bool)
  | rb2SL (geMin : Bool)
  | rb2MS (geMin : Bool)
  | rb2MM (geMin : Bool)
  | rb2ML (geMin : Bool)
  | rb2XS (fopLow : Bool) (geMin : Bool)
  | rb2XM (fopLow : Bool) (geMin : Bool)
  | rb2XL (fopLow : Bool) (geMin : Bool)
  | glitchLo (state : BitVec 3) (fop : BitVec 2)
  | glitchHi (state : BitVec 3) (fop : BitVec 2)
  | reset (faulted : Bool) (rateOk : Bool)
  | fhold (rateOk : Bool)
  | norate
  deriving DecidableEq, Repr

/-- R67: one dispatch format of 8 bits (`DW`, R62) and one control format of 3 bits (`CTL`, R63). -/
inductive InstrWord where
  | dw (w : BitVec 8)
  | ctl (w : BitVec 3)
  deriving DecidableEq, Repr

end Sys2Proof
end

