-- ==== Sys2Proof/WellFormed.lean ====
section
/-! DEFINITION. Which words the block itself can form: 30_encoding.md R66 (a), (b), (d) and R64's two remarks on ignored bits. -/

namespace Sys2Proof

/-- R64, R33 (a), R72: outside `ReadBitsSecond` no pulse is stored and a valid pulse has `ge_min` = 1. -/
abbrev producibleOutsidePair (fop : BitVec 2) (geMin : Bool) : Bool := fop == 0#2 && geMin

/-- R66 (a), (b), R33 (a): a named state; the code 0b01 is never stored; a pulse is stored exactly in `ReadBitsSecond`. -/
abbrev producibleGlitch (state : BitVec 3) (fop : BitVec 2) : Bool :=
  if state = 4#3 then fop == 2#2 || fop == 3#2 else decide (state < 4#3) && fop == 0#2

/-- An instruction is well formed when a state of R33 and a pulse can produce its word. The rows RB2_X are never
produced (R66 c). A word that is not well formed still decodes to the row R64 gives it. -/
def Instr.wellFormed : Instr → Bool
  | .wm1S f g | .wm1M f g | .wm1L f g => producibleOutsidePair f g
  | .wm2S f g | .wm2M f g | .wm2L f g => producibleOutsidePair f g
  | .wm3S f g | .wm3M f g | .wm3L f g => producibleOutsidePair f g
  | .rb1S f g | .rb1M f g | .rb1L f g => producibleOutsidePair f g
  | .rb2SS g | .rb2SM g | .rb2SL g | .rb2MS g | .rb2MM g | .rb2ML g => g
  | .rb2XS _ _ | .rb2XM _ _ | .rb2XL _ _ => false
  | .glitchLo st f | .glitchHi st f => producibleGlitch st f
  | .reset _ _ => true
  | .fhold _ => true
  | .norate => true

end Sys2Proof
end

