-- ==== Sys2Proof/Decode.lean ====
section
/-! DEFINITION. The codes of 30_encoding.md sections 1 and 2, the operation map R64 as match and mask rows, the decoder, and
the encoder written from the formats R62 and R63. -/

namespace Sys2Proof

/-! ### Value codes -/

/-- R53. -/
def PulseType.code : PulseType → BitVec 2
  | .short => 0b00#2
  | .medium => 0b01#2
  | .long => 0b10#2
  | .invalid => 0b11#2

/-- R54. -/
def FsmState.code : FsmState → BitVec 3
  | .waitMarkFirst => 0b000#3
  | .waitMarkSecond => 0b001#3
  | .waitMarkThird => 0b010#3
  | .readBitsFirst => 0b011#3
  | .readBitsSecond => 0b100#3

/-- R54, R66 (a): the state a code names, if any. -/
def FsmState.ofCode (c : BitVec 3) : Option FsmState :=
  if c = 0b000#3 then some .waitMarkFirst
  else if c = 0b001#3 then some .waitMarkSecond
  else if c = 0b010#3 then some .waitMarkThird
  else if c = 0b011#3 then some .readBitsFirst
  else if c = 0b100#3 then some .readBitsSecond
  else none

/-- R55: bit 1 says a pulse is held, bit 0 is bit 0 of that pulse's type code. -/
def FirstOfPair.code : FirstOfPair → BitVec 2
  | .none => 0b00#2
  | .short => 0b10#2
  | .medium => 0b11#2

/-- R55; the unused code 0b01 holds no pulse, since its bit 1 is 0 (R66 b). -/
def FirstOfPair.ofCode (c : BitVec 2) : FirstOfPair :=
  if c = 0b10#2 then .short else if c = 0b11#2 then .medium else .none

/-- R39. -/
def Polarity.code : Polarity → BitVec 1
  | .read => 0#1
  | .write => 1#1

/-- R57. -/
def EventKind.code : EventKind → BitVec 3
  | .pulse => 0b000#3
  | .marker => 0b001#3
  | .bit => 0b010#3
  | .byte => 0b011#3
  | .ascii => 0b100#3
  | .error => 0b101#3

/-- R59. -/
def MarkerLabel.code : MarkerLabel → Byte
  | .byteStart => 0x00#8
  | .eof => 0x01#8

/-- R60. -/
def ErrorLabel.code : ErrorLabel → Byte
  | .badMarker => 0x00#8
  | .badBitStart => 0x01#8
  | .badBitPair => 0x02#8
  | .glitch => 0x03#8

/-- R60, R121. -/
def ErrorLabel.errorClass : ErrorLabel → ErrorClass
  | .badMarker => .framingError
  | .badBitStart => .framingError
  | .badBitPair => .framingError
  | .glitch => .glitchError

/-! ### Formats -/

/-- R62: `dw = state ++ fop ++ ge_min ++ ptype`. -/
def dwWord (state : BitVec 3) (fop : BitVec 2) (geMin : Bool) (ptype : BitVec 2) : BitVec 8 :=
  state ++ fop ++ BitVec.ofBool geMin ++ ptype

/-- R63: `cw = rst ++ faulted ++ rate_ok`. -/
def cwWord (rst faulted rateOk : Bool) : BitVec 3 :=
  BitVec.ofBool rst ++ BitVec.ofBool faulted ++ BitVec.ofBool rateOk

/-- R62: `dw[7:5]`. -/
def dwState (w : BitVec 8) : BitVec 3 := w.extractLsb' 5 3

/-- R62: `dw[4:3]`. -/
def dwFop (w : BitVec 8) : BitVec 2 := w.extractLsb' 3 2

/-- R62: `dw[2]`. -/
def dwGeMin (w : BitVec 8) : Bool := w.getLsbD 2

/-- R62: `dw[1:0]`. -/
def dwPtype (w : BitVec 8) : BitVec 2 := w.extractLsb' 0 2

/-! ### The operation map -/

/-- One `DW` row of R64: it selects `build w` when `w & mask = pat`. -/
structure DwRow where
  mask  : BitVec 8
  pat   : BitVec 8
  build : BitVec 8 → Instr

/-- R64, the rows of `WaitMarkFirst` and `WaitMarkSecond`. -/
def dwRowsMarkFirstSecond : List DwRow := [
  ⟨0xE3#8, 0x00#8, fun w => .wm1S (dwFop w) (dwGeMin w)⟩,
  ⟨0xE3#8, 0x01#8, fun w => .wm1M (dwFop w) (dwGeMin w)⟩,
  ⟨0xE3#8, 0x02#8, fun w => .wm1L (dwFop w) (dwGeMin w)⟩,
  ⟨0xE3#8, 0x20#8, fun w => .wm2S (dwFop w) (dwGeMin w)⟩,
  ⟨0xE3#8, 0x21#8, fun w => .wm2M (dwFop w) (dwGeMin w)⟩,
  ⟨0xE3#8, 0x22#8, fun w => .wm2L (dwFop w) (dwGeMin w)⟩]

/-- R64, the rows of `WaitMarkThird` and `ReadBitsFirst`. -/
def dwRowsMarkThirdBitsFirst : List DwRow := [
  ⟨0xE3#8, 0x40#8, fun w => .wm3S (dwFop w) (dwGeMin w)⟩,
  ⟨0xE3#8, 0x41#8, fun w => .wm3M (dwFop w) (dwGeMin w)⟩,
  ⟨0xE3#8, 0x42#8, fun w => .wm3L (dwFop w) (dwGeMin w)⟩,
  ⟨0xE3#8, 0x60#8, fun w => .rb1S (dwFop w) (dwGeMin w)⟩,
  ⟨0xE3#8, 0x61#8, fun w => .rb1M (dwFop w) (dwGeMin w)⟩,
  ⟨0xE3#8, 0x62#8, fun w => .rb1L (dwFop w) (dwGeMin w)⟩]

/-- R64, the rows of `ReadBitsSecond`. -/
def dwRowsBitsSecond : List DwRow := [
  ⟨0xFB#8, 0x90#8, fun w => .rb2SS (dwGeMin w)⟩,
  ⟨0xFB#8, 0x91#8, fun w => .rb2SM (dwGeMin w)⟩,
  ⟨0xFB#8, 0x92#8, fun w => .rb2SL (dwGeMin w)⟩,
  ⟨0xFB#8, 0x98#8, fun w => .rb2MS (dwGeMin w)⟩,
  ⟨0xFB#8, 0x99#8, fun w => .rb2MM (dwGeMin w)⟩,
  ⟨0xFB#8, 0x9A#8, fun w => .rb2ML (dwGeMin w)⟩,
  ⟨0xF3#8, 0x80#8, fun w => .rb2XS (w.getLsbD 3) (dwGeMin w)⟩,
  ⟨0xF3#8, 0x81#8, fun w => .rb2XM (w.getLsbD 3) (dwGeMin w)⟩,
  ⟨0xF3#8, 0x82#8, fun w => .rb2XL (w.getLsbD 3) (dwGeMin w)⟩]

/-- R64, the two glitch rows. -/
def dwRowsGlitch : List DwRow := [
  ⟨0x07#8, 0x03#8, fun w => .glitchLo (dwState w) (dwFop w)⟩,
  ⟨0x07#8, 0x07#8, fun w => .glitchHi (dwState w) (dwFop w)⟩]

/-- R64: all `DW` rows. -/
def dwRows : List DwRow :=
  dwRowsMarkFirstSecond ++ dwRowsMarkThirdBitsFirst ++ dwRowsBitsSecond ++ dwRowsGlitch

/-- R64: the selection test of a row. -/
def DwRow.selects (r : DwRow) (w : BitVec 8) : Bool := w &&& r.mask == r.pat

/-! ### The decoder -/

/-- Why a word selects no operation. -/
inductive DecodeError where
  /-- R66 (a): a dispatch word with a state code that names no state, and a valid pulse type. -/
  | reservedState (code : BitVec 3)
  /-- R63: `cw` = 0b001 selects no control operation, but normal dispatch by `dw`. -/
  | normalDispatch
  deriving DecidableEq, Repr

/-- R62, R64: the operation a dispatch word selects. -/
def decodeDw (w : BitVec 8) : Except DecodeError Instr :=
  match dwRows.find? (fun r => r.selects w) with
  | some r => .ok (r.build w)
  | none => .error (.reservedState (dwState w))

/-- R63, R64: the control operation a control word selects. -/
def decodeCtl (w : BitVec 3) : Except DecodeError Instr :=
  if w &&& 0b100#3 = 0b100#3 then .ok (.reset (w.getLsbD 1) (w.getLsbD 0))
  else if w &&& 0b110#3 = 0b010#3 then .ok (.fhold (w.getLsbD 0))
  else if w &&& 0b111#3 = 0b000#3 then .ok .norate
  else .error .normalDispatch

def decode : InstrWord → Except DecodeError Instr
  | .dw w => decodeDw w
  | .ctl w => decodeCtl w

/-! ### The encoder -/

/-- R62, R63 with the codes R53 to R55: the word of an instruction. -/
def encode : Instr → InstrWord
  | .wm1S f g => .dw (dwWord FsmState.waitMarkFirst.code f g PulseType.short.code)
  | .wm1M f g => .dw (dwWord FsmState.waitMarkFirst.code f g PulseType.medium.code)
  | .wm1L f g => .dw (dwWord FsmState.waitMarkFirst.code f g PulseType.long.code)
  | .wm2S f g => .dw (dwWord FsmState.waitMarkSecond.code f g PulseType.short.code)
  | .wm2M f g => .dw (dwWord FsmState.waitMarkSecond.code f g PulseType.medium.code)
  | .wm2L f g => .dw (dwWord FsmState.waitMarkSecond.code f g PulseType.long.code)
  | .wm3S f g => .dw (dwWord FsmState.waitMarkThird.code f g PulseType.short.code)
  | .wm3M f g => .dw (dwWord FsmState.waitMarkThird.code f g PulseType.medium.code)
  | .wm3L f g => .dw (dwWord FsmState.waitMarkThird.code f g PulseType.long.code)
  | .rb1S f g => .dw (dwWord FsmState.readBitsFirst.code f g PulseType.short.code)
  | .rb1M f g => .dw (dwWord FsmState.readBitsFirst.code f g PulseType.medium.code)
  | .rb1L f g => .dw (dwWord FsmState.readBitsFirst.code f g PulseType.long.code)
  | .rb2SS g => .dw (dwWord FsmState.readBitsSecond.code FirstOfPair.short.code g PulseType.short.code)
  | .rb2SM g => .dw (dwWord FsmState.readBitsSecond.code FirstOfPair.short.code g PulseType.medium.code)
  | .rb2SL g => .dw (dwWord FsmState.readBitsSecond.code FirstOfPair.short.code g PulseType.long.code)
  | .rb2MS g => .dw (dwWord FsmState.readBitsSecond.code FirstOfPair.medium.code g PulseType.short.code)
  | .rb2MM g => .dw (dwWord FsmState.readBitsSecond.code FirstOfPair.medium.code g PulseType.medium.code)
  | .rb2ML g => .dw (dwWord FsmState.readBitsSecond.code FirstOfPair.medium.code g PulseType.long.code)
  | .rb2XS l g => .dw (dwWord FsmState.readBitsSecond.code (0#1 ++ BitVec.ofBool l) g PulseType.short.code)
  | .rb2XM l g => .dw (dwWord FsmState.readBitsSecond.code (0#1 ++ BitVec.ofBool l) g PulseType.medium.code)
  | .rb2XL l g => .dw (dwWord FsmState.readBitsSecond.code (0#1 ++ BitVec.ofBool l) g PulseType.long.code)
  | .glitchLo st f => .dw (dwWord st f false PulseType.invalid.code)
  | .glitchHi st f => .dw (dwWord st f true PulseType.invalid.code)
  | .reset f k => .ctl (cwWord true f k)
  | .fhold k => .ctl (cwWord false true k)
  | .norate => .ctl (cwWord false false false)

/-! ### The host's numbering -/

/-- A table word as a word of one of the two formats (R67): `CTL` for the 3 bits the table gives its rows, `DW` for 8. A
word does not say its format; 8 bits are read as `DW` (log entry 11). -/
def tableWord (nbits w : Nat) : Option InstrWord :=
  if nbits ≤ 3 then (if w < 8 then some (.ctl (BitVec.ofNat 3 w)) else none)
  else if w < 256 then some (.dw (BitVec.ofNat 8 w)) else none

/-- The instruction the decoder reads from a word of opcode_table.json. -/
def decodeTableWord (nbits w : Nat) : Option Instr :=
  match tableWord nbits w with
  | some word => (decode word).toOption
  | none => none

end Sys2Proof
end

