-- ==== Sys2Proof/Machine/State.lean ====
section
/-! DEFINITION. The block's seven fields (10_state.md R20), the session configuration, the two streams, the reset values. -/

namespace Sys2Proof.Machine

/-- The outcome of a step that is no new state of decoding (43_step_and_glitch.md R105). -/
inductive Fault where
  /-- R109, R110, R126: recorded by NORATE and FHOLD in `State.raised`. The step still answers a next state, because the
  spec gives the state after the fault and RESET leaves it (log entry 5, unsafe for a claim that takes every next state as
  decoding that goes on). -/
  | missingSampleRate
  deriving DecidableEq, Repr

inductive Refusal where
  /-- An operation without a meaning, by its mnemonic: raised by no arm of exec. Safe. -/
  | notModelled (mnemonic : String)
  /-- The two words select no operation: raised by `runLatched` only, and never, since every state has a named state code
  (R66 a). Safe. -/
  | noOperation
  /-- R51, U2: raised by the port level only (`PortState.cycle`), for a token under a configuration that is not its
  session's; the spec gives such a run no meaning. Safe. -/
  | configurationChanged
  deriving DecidableEq, Repr

abbrev Outcome (σ : Type) := Host.Outcome σ Fault Refusal

/-- 30_encoding.md R56: the input token; `stop` is the spec's `end`. -/
structure Token (w : Widths) where
  rateOk : Bool
  us     : Duration w
  start  : TimeStamp w
  stop   : TimeStamp w
  deriving DecidableEq, Repr

/-- 00_scope.md R11: what the host does to the block, one step each. A reset carries the configuration of the session it
starts (R31, R51, R143; log entry 6). -/
inductive Stimulus (w : Widths) where
  | token (t : Token w)
  | reset (session : ThresholdConfig w)
  deriving DecidableEq, Repr

/-- 30_encoding.md R57 to R61: an event's kind and payload. -/
inductive EventBody where
  | pulse (p : PulseType)
  | marker (l : MarkerLabel)
  | bit (b : Bool)
  | byte (v : Byte)
  | ascii (c : Byte)
  | error (l : ErrorLabel)
  deriving DecidableEq, Repr

/-- 30_encoding.md R58: an event with its half-open time range; `stop` is the spec's `end`. -/
structure Event (w : Widths) where
  body  : EventBody
  start : TimeStamp w
  stop  : TimeStamp w
  deriving DecidableEq, Repr

/-- 10_state.md R20: the complete state of the block. -/
structure DecoderState (w : Widths) where
  fsmState      : FsmState
  bitIndex      : BitVec 3
  dataByte      : Byte
  firstOfPair   : FirstOfPair
  byteStartTime : TimeStamp w
  bitStartTime  : TimeStamp w
  faulted       : Bool
  deriving DecidableEq, Repr

/-- The block and its environment, for the widths `w`. `st` is the block; `cfg` the session's configuration (R28); `rst` and
`token` the inputs the current step samples; `stimuli` what the host presents after them; `events` the output stream as the
sink has received it (R42); `raised` the fault outcome of the latest step; `freeCount` the index of the next free value. -/
structure StateAt (w : Widths) where
  st        : DecoderState w
  cfg       : ThresholdConfig w
  rst       : Bool
  token     : Token w
  stimuli   : List (Stimulus w)
  events    : List (Event w)
  raised    : Option Fault
  freeCount : Nat
  deriving DecidableEq, Repr

/-- The machine: the widths it is built with, the arguments R5 asks for, and the state at those widths. No step changes the
widths (log entry 1). -/
structure State where
  widths : Widths
  val    : StateAt widths
  deriving DecidableEq, Repr

/-- R36. DESIGN CHOICE (log entry 3, unsafe): the spec gives the two time stamps no value; zero here. -/
def DecoderState.reset (w : Widths) : DecoderState w where
  fsmState := .waitMarkFirst
  bitIndex := 0#3
  dataByte := 0x00#8
  firstOfPair := .none
  byteStartTime := 0
  bitStartTime := 0
  faulted := false

/-- R36, R140: the machine of widths `w` after reset, in a session with the configuration `c`, with nothing presented yet.
DESIGN CHOICE: the environment's fields (log entries 4, 5, 6, 8). -/
def StateAt.reset (w : Widths) (c : ThresholdConfig w) : StateAt w where
  st := .reset w
  cfg := c
  rst := false
  token := ⟨false, 0, 0, 0⟩
  stimuli := []
  events := []
  raised := none
  freeCount := 0

/-- The machine after reset, at the default widths (R5). DESIGN CHOICE: under the default configuration (log entry 2). -/
def State.reset : State := ⟨.default, .reset .default .default⟩

end Sys2Proof.Machine
end

