-- ==== Sys2Proof/Machine/Operands.lean ====
section
/-! DEFINITION. Operand assembly (30_encoding.md R65), the sums of 10_state.md R29, the values an operation computes
(42_bit_states.md R93, R94), and the words of tokens and events (30_encoding.md R56, R58). -/

namespace Sys2Proof.Machine

/-- R29: `sm_sum`, one bit wider than its operands. -/
def smSum {w : Nat} (c : Thresholds w) : BitVec (w + 1) :=
  c.shortUs.setWidth (w + 1) + c.mediumUs.setWidth (w + 1)

/-- R29: `ml_sum`. -/
def mlSum {w : Nat} (c : Thresholds w) : BitVec (w + 1) :=
  c.mediumUs.setWidth (w + 1) + c.longUs.setWidth (w + 1)

/-- R65: the duration, doubled without loss. -/
def us2 {w : Nat} (us : BitVec w) : BitVec (w + 1) := us.setWidth (w + 1) <<< 1

/-- R93: `zext_8(b) << bit_index`. -/
def bitAt (b : Bool) (i : BitVec 3) : Byte := (BitVec.ofBool b).setWidth 8 <<< i

/-- R94: the payload of the Ascii event; 0x2E is the code of the full stop (PRESUMED by the spec itself, its G1). -/
def asciiOf (v : Byte) : Byte := if 0x20#8 ≤ v ∧ v ≤ 0x7E#8 then v else 0x2E#8

/-- R57. -/
def EventBody.kind : EventBody → EventKind
  | .pulse _ => .pulse
  | .marker _ => .marker
  | .bit _ => .bit
  | .byte _ => .byte
  | .ascii _ => .ascii
  | .error _ => .error

/-- R59 to R61. -/
def EventBody.payload : EventBody → Byte
  | .pulse p => p.code.setWidth 8
  | .marker l => l.code
  | .bit b => (BitVec.ofBool b).setWidth 8
  | .byte v => v
  | .ascii c => c
  | .error l => l.code

/-- R58: `kind ++ payload ++ start ++ end`. -/
def Event.word {w : Widths} (e : Event w) : BitVec (3 + 8 + w.W_T + w.W_T) :=
  e.body.kind.code ++ e.body.payload ++ e.start ++ e.stop

/-- R56: `rate_ok ++ us ++ start ++ end`. -/
def Token.word {w : Widths} (t : Token w) : BitVec (1 + w.W_US + w.W_T + w.W_T) :=
  BitVec.ofBool t.rateOk ++ t.us ++ t.start ++ t.stop

/-- R56: the token on the input wires. -/
def Token.ofWord {w : Widths} (v : BitVec (1 + w.W_US + w.W_T + w.W_T)) : Token w where
  rateOk := v.getLsbD (2 * w.W_T + w.W_US)
  us := v.extractLsb' (2 * w.W_T) w.W_US
  start := v.extractLsb' w.W_T w.W_T
  stop := v.extractLsb' 0 w.W_T

end Sys2Proof.Machine
end

