-- ==== Sys2Proof/Machine/Flags.lean ====
section
/-! DEFINITION. The block has no condition codes (10_state.md R37). Its single-bit quantities: the four comparisons of
40_classifier.md R71, `ge_min` (R72), and the control word (30_encoding.md R63). -/

namespace Sys2Proof.Machine

/-- R71: `c_lo`. -/
def cLo {w : Nat} (c : Thresholds w) (us : BitVec w) : Bool := us < c.minValidUs

/-- R71: `c_hi`. -/
def cHi {w : Nat} (c : Thresholds w) (us : BitVec w) : Bool := c.maxValidUs < us

/-- R71: `c_sm`. -/
def cSm {w : Nat} (c : Thresholds w) (us : BitVec w) : Bool := us2 us < smSum c

/-- R71: `c_ml`. -/
def cMl {w : Nat} (c : Thresholds w) (us : BitVec w) : Bool := us2 us < mlSum c

/-- R72: `ge_min`. -/
def geMin {w : Nat} (c : Thresholds w) (us : BitVec w) : Bool := !cLo c us

/-- R63: `cw`, from the inputs the step has sampled and `faulted`. -/
def StateAt.controlWord {w : Widths} (s : StateAt w) : BitVec 3 := cwWord s.rst s.st.faulted s.token.rateOk

/-- R151: the status output `fault_no_rate`. -/
def StateAt.faultNoRate {w : Widths} (s : StateAt w) : Bool := s.st.faulted

/-- R39, R151: the status output `edge_sel`, `polarity` passed unchanged from the configuration to the front end. -/
def edgeSel {w : Nat} (c : Thresholds w) : BitVec 1 := c.polarity.code

end Sys2Proof.Machine
end

