-- ==== Sys2Proof/Machine/Classifier.lean ====
section
/-! DEFINITION. The pulse classifier (40_classifier.md) and the dispatch word it feeds (30_encoding.md R62). -/

namespace Sys2Proof.Machine

/-- R70, R71: CLASSIFY, first match wins; total for every configuration (R79 a). -/
def classify {w : Nat} (c : Thresholds w) (us : BitVec w) : PulseType :=
  if cLo c us || cHi c us then .invalid
  else if cSm c us then .short
  else if cMl c us then .medium
  else .long

/-- R62: `dw`, from the state, and the classifier's two outputs for the sampled token. -/
def StateAt.dispatchWord {w : Widths} (s : StateAt w) : BitVec 8 :=
  dwWord s.st.fsmState.code s.st.firstOfPair.code (geMin s.cfg s.token.us) (classify s.cfg s.token.us).code

end Sys2Proof.Machine
end

