-- ==== Sys2Proof/Machine/Ops.lean ====
section
/-! DEFINITION. The named operations over the state that the meanings share, for every width: writing one field, emitting
one event, taking an error, completing a bit pair, reset; then sampling the inputs and fetching the operation of a step. The
block has no memory (20_memory.md R40), so there is none here. -/

namespace Sys2Proof.Machine

variable {w : Widths}

/-! ### A meaning's outcome -/

/-- The next state, at the same widths, that `f` makes of the state. -/
def State.runs (s : State) (f : StateAt s.widths → StateAt s.widths) : Outcome State := .next ⟨s.widths, f s.val⟩

/-! ### Writing one field of the block -/

/-- R21: `st.fsm_state <- f`. -/
def StateAt.goto (s : StateAt w) (f : FsmState) : StateAt w := { s with st := { s.st with fsmState := f } }

/-- `st.bit_index <- i`. -/
def StateAt.setBitIndex (s : StateAt w) (i : BitVec 3) : StateAt w := { s with st := { s.st with bitIndex := i } }

/-- `st.data_byte <- v`. -/
def StateAt.setDataByte (s : StateAt w) (v : Byte) : StateAt w := { s with st := { s.st with dataByte := v } }

/-- `st.first_of_pair <- p`. -/
def StateAt.setFirstOfPair (s : StateAt w) (p : FirstOfPair) : StateAt w := { s with st := { s.st with firstOfPair := p } }

/-- `st.byte_start_time <- in.start`. -/
def StateAt.recordByteStart (s : StateAt w) : StateAt w := { s with st := { s.st with byteStartTime := s.token.start } }

/-- `st.bit_start_time <- in.start`. -/
def StateAt.recordBitStart (s : StateAt w) : StateAt w := { s with st := { s.st with bitStartTime := s.token.start } }

/-- `st.faulted <- b`. -/
def StateAt.setFaulted (s : StateAt w) (b : Bool) : StateAt w := { s with st := { s.st with faulted := b } }

/-! ### Emitting (00_scope.md R9; the time ranges of 43_step_and_glitch.md R113) -/

/-- R9: `emit K(payload, a, b)` appends one event to the output. -/
def StateAt.emit (s : StateAt w) (k : EventBody) (a b : TimeStamp w) : StateAt w :=
  { s with events := s.events ++ [⟨k, a, b⟩] }

/-- R113: an event that covers the current pulse only. -/
def StateAt.emitHere (s : StateAt w) (k : EventBody) : StateAt w := s.emit k s.token.start s.token.stop

/-- R113: an event from the first Long of the marker to the end of the current pulse. -/
def StateAt.emitSinceMarker (s : StateAt w) (k : EventBody) : StateAt w := s.emit k s.st.byteStartTime s.token.stop

/-- R113: an event from the first pulse of the bit pair to the end of the current pulse. -/
def StateAt.emitSincePair (s : StateAt w) (k : EventBody) : StateAt w := s.emit k s.st.bitStartTime s.token.stop

/-- R105, R106: the Pulse event of a valid pulse, before any event of its operation. -/
def StateAt.acceptPulse (s : StateAt w) (p : PulseType) : StateAt w := s.emitHere (.pulse p)

/-! ### Taking an exception, and leaving one (60_exceptions.md section 4) -/

/-- R129: resynchronise. Nothing is saved, no mode or mask changes, there is no vector. -/
def StateAt.resync (s : StateAt w) : StateAt w := s.goto .waitMarkFirst

/-- R129: a reported error, one Error event over the offending pulse and then `WaitMarkFirst`. The operations that start in
`ReadBitsSecond` and the glitches clear `first_of_pair` beside it. There is no return operation (R130). -/
def StateAt.takeError (s : StateAt w) (l : ErrorLabel) : StateAt w := (s.emitHere (.error l)).resync

/-- R9, R126: the fault outcome of this step; no event, no other state (log entry 5). -/
def StateAt.raiseMissingSampleRate (s : StateAt w) : StateAt w := { s with raised := some .missingSampleRate }

/-- R111: RESET, which alone leaves the fatal fault. The two time stamps are left without a defined value: two free values
(log entry 4). -/
def StateAt.applyReset (s : StateAt w) : StateAt w :=
  { s with
    st := { DecoderState.reset w with
      byteStartTime := Config.freeTimeStamp w s.freeCount
      bitStartTime := Config.freeTimeStamp w (s.freeCount + 1) }
    freeCount := s.freeCount + 2 }

/-! ### The shared procedure of a completed bit pair -/

/-- R93: the eighth bit: `bit_index` back to 0, the Byte and Ascii events, `WaitMarkFirst`. -/
def StateAt.completeByte (s : StateAt w) : StateAt w :=
  (((s.setBitIndex 0#3).emitSinceMarker (.byte s.st.dataByte)).emitSinceMarker (.ascii (asciiOf s.st.dataByte))).goto
    .waitMarkFirst

/-- R93: a bit before the eighth: `bit_index` advances, `ReadBitsFirst`. -/
def StateAt.awaitNextPair (s : StateAt w) : StateAt w := (s.setBitIndex (s.st.bitIndex + 1#3)).goto .readBitsFirst

/-- R93: ACCUM(b). -/
def StateAt.accum (s : StateAt w) (b : Bool) : StateAt w :=
  let s := s.emitSincePair (.bit b)
  let s := (s.setDataByte (s.st.dataByte ||| bitAt b s.st.bitIndex)).setFirstOfPair .none
  if s.st.bitIndex = 7#3 then s.completeByte else s.awaitNextPair

/-! ### The inputs of a step, and the operation they select -/

/-- R41, R63: sample the next stimulus; the outcome of the previous step is over. A token is consumed; a reset consumes
none (R111) and the host holds the configuration of the new session from here on (R31; log entry 6). -/
def StateAt.latch (s : StateAt w) (x : Stimulus w) (rest : List (Stimulus w)) : StateAt w :=
  match x with
  | .token t => { s with rst := false, token := t, stimuli := rest, raised := none }
  | .reset c => { s with rst := true, cfg := c, stimuli := rest, raised := none }

/-- R63, R105: the control word selects first; where it selects no control operation, the dispatch word does. -/
def StateAt.fetch (s : StateAt w) : Except DecodeError Instr :=
  match decode (.ctl s.controlWord) with
  | .ok i => .ok i
  | .error _ => decode (.dw s.dispatchWord)

/-! ### Presenting an operation from outside (for the host's table words) -/

/-- A duration that the classifier sorts as `(p, g)` under `c`, if `c` has one: the edges of the window are Short and Long
(R79 c), the first duration at or over the lower midpoint is Medium where any is. -/
def durationFor (c : ThresholdConfig w) (p : PulseType) (g : Bool) : Duration w :=
  match p, g with
  | .short, _ => c.minValidUs
  | .medium, _ => BitVec.ofNat w.W_US ((c.shortUs.toNat + c.mediumUs.toNat + 1) / 2)
  | .long, _ => c.maxValidUs
  | .invalid, false => 0
  | .invalid, true => c.maxValidUs + 1

/-- Whether `durationFor` gives what it is asked for under `c`. A valid pulse always has `ge_min` = 1 (R72). -/
def offers (c : ThresholdConfig w) (p : PulseType) (g : Bool) : Bool :=
  classify c (durationFor c p g) == p && geMin c (durationFor c p g) == (p != .invalid || g)

/-- The pulse type a 2-bit code names (R53). -/
def pulseOfCode (c : BitVec 2) : PulseType :=
  if c = 0b00#2 then .short else if c = 0b01#2 then .medium else if c = 0b10#2 then .long else .invalid

/-- The configuration to present a pulse under: the state's own where it has such a duration, else the defaults. -/
def StateAt.cfgFor (s : StateAt w) (p : PulseType) (g : Bool) : ThresholdConfig w :=
  if offers s.cfg p g then s.cfg else Thresholds.default w.W_US

/-- The state from which the next step dispatches on `d`: the state fields `dw` names, and a token of the pulse it names. -/
def StateAt.presentDw (s : StateAt w) (d : BitVec 8) : StateAt w :=
  let p := pulseOfCode (dwPtype d)
  let c := s.cfgFor p (dwGeMin d)
  { s with
    st := { s.st with
      fsmState := (FsmState.ofCode (dwState d)).getD s.st.fsmState
      firstOfPair := FirstOfPair.ofCode (dwFop d)
      faulted := false }
    cfg := c
    stimuli := .token ⟨true, durationFor c p (dwGeMin d), s.token.start, s.token.stop⟩ :: s.stimuli }

/-- The state from which the next step's control word is `c`: the `faulted` field, and a reset or a token by `cw[2]`, with
`rate_ok` on the wires. -/
def StateAt.presentCtl (s : StateAt w) (c : BitVec 3) : StateAt w :=
  { s with
    st := { s.st with faulted := c.getLsbD 1 }
    token := { s.token with rateOk := c.getLsbD 0 }
    stimuli := (if c.getLsbD 2 then .reset s.cfg
      else .token ⟨c.getLsbD 0, s.token.us, s.token.start, s.token.stop⟩) :: s.stimuli }

end Sys2Proof.Machine
end

