-- ==== Sys2Proof/Machine/BitStates.lean ====
section
/-! DEFINITION. The twelve operations of the bit-reading states (42_bit_states.md). -/

namespace Sys2Proof.Machine

/-! ### ReadBitsFirst -/

/-- R90 -/
def execRb1S (s : State) : Outcome State :=
  s.runs fun b => (((b.acceptPulse .short).setFirstOfPair .short).recordBitStart).goto .readBitsSecond

/-- R91 -/
def execRb1M (s : State) : Outcome State :=
  s.runs fun b => (((b.acceptPulse .medium).setFirstOfPair .medium).recordBitStart).goto .readBitsSecond

/-- R92: the byte in progress is discarded, its partial fields stay. -/
def execRb1L (s : State) : Outcome State := s.runs fun b => (b.acceptPulse .long).takeError .badBitStart

/-! ### ReadBitsSecond -/

/-- R95: bit 0. -/
def execRb2SM (s : State) : Outcome State := s.runs fun b => (b.acceptPulse .medium).accum false

/-- R96: bit 1. -/
def execRb2MS (s : State) : Outcome State := s.runs fun b => (b.acceptPulse .short).accum true

/-- R97 -/
def execRb2SS (s : State) : Outcome State :=
  s.runs fun b => ((b.acceptPulse .short).setFirstOfPair .none).takeError .badBitPair

/-- R98 -/
def execRb2MM (s : State) : Outcome State :=
  s.runs fun b => ((b.acceptPulse .medium).setFirstOfPair .none).takeError .badBitPair

/-- R99 -/
def execRb2SL (s : State) : Outcome State :=
  s.runs fun b => ((b.acceptPulse .long).setFirstOfPair .none).takeError .badBitPair

/-- R100 -/
def execRb2ML (s : State) : Outcome State :=
  s.runs fun b => ((b.acceptPulse .long).setFirstOfPair .none).takeError .badBitPair

/-- R101: unreachable (R33 a), the source's row for anything else. -/
def execRb2XS (s : State) : Outcome State :=
  s.runs fun b => ((b.acceptPulse .short).setFirstOfPair .none).takeError .badBitPair

/-- R102: unreachable (R33 a), the source's row for anything else. -/
def execRb2XM (s : State) : Outcome State :=
  s.runs fun b => ((b.acceptPulse .medium).setFirstOfPair .none).takeError .badBitPair

/-- R103: unreachable (R33 a), the source's row for anything else. -/
def execRb2XL (s : State) : Outcome State :=
  s.runs fun b => ((b.acceptPulse .long).setFirstOfPair .none).takeError .badBitPair

end Sys2Proof.Machine
end

