-- ==== Sys2Proof/Machine/Control.lean ====
section
/-! DEFINITION. The control operations (43_step_and_glitch.md section 3). -/

namespace Sys2Proof.Machine

/-- R111 -/
def execReset (s : State) : Outcome State := s.runs fun b => b.applyReset

/-- R110: the same fault again, nothing changes (log entry 5). -/
def execFhold (s : State) : Outcome State := s.runs fun b => b.raiseMissingSampleRate

/-- R109: the fatal fault; the token is not looked at (log entry 5). -/
def execNorate (s : State) : Outcome State := s.runs fun b => (b.setFaulted true).raiseMissingSampleRate

end Sys2Proof.Machine
end

