-- ==== Sys2Proof/Machine/Glitch.lean ====
section
/-! DEFINITION. The two glitch operations (43_step_and_glitch.md section 2). -/

namespace Sys2Proof.Machine

/-- R107: no event at all; the resynchronisation is unconditional (90_conflicts.md C1). -/
def execGlitchLo (s : State) : Outcome State := s.runs fun b => (b.setFirstOfPair .none).resync

/-- R108: reported, with no Pulse event. -/
def execGlitchHi (s : State) : Outcome State := s.runs fun b => (b.setFirstOfPair .none).takeError .glitch

end Sys2Proof.Machine
end

