-- ==== Sys2Proof/Machine/Marker.lean ====
section
/-! DEFINITION. The nine operations of the marker states (41_marker_states.md). -/

namespace Sys2Proof.Machine

/-! ### WaitMarkFirst -/

/-- R81: ignore, stay. -/
def execWm1S (s : State) : Outcome State := s.runs fun b => (b.acceptPulse .short).goto .waitMarkFirst

/-- R82: ignore, stay. -/
def execWm1M (s : State) : Outcome State := s.runs fun b => (b.acceptPulse .medium).goto .waitMarkFirst

/-- R80: the Long that may open a marker. -/
def execWm1L (s : State) : Outcome State := s.runs fun b => (b.acceptPulse .long).recordByteStart.goto .waitMarkSecond

/-! ### WaitMarkSecond -/

/-- R83 -/
def execWm2S (s : State) : Outcome State := s.runs fun b => (b.acceptPulse .short).takeError .badMarker

/-- R84: BYTE-START; whatever an earlier error left of a byte is cleared. -/
def execWm2M (s : State) : Outcome State :=
  s.runs fun b => ((((b.acceptPulse .medium).emitSinceMarker (.marker .byteStart)).setBitIndex 0#3).setDataByte 0x00#8).goto
    .readBitsFirst

/-- R85: `byte_start_time` is not written again. -/
def execWm2L (s : State) : Outcome State := s.runs fun b => (b.acceptPulse .long).goto .waitMarkThird

/-! ### WaitMarkThird -/

/-- R86 -/
def execWm3S (s : State) : Outcome State := s.runs fun b => (b.acceptPulse .short).takeError .badMarker

/-- R87: the machine does not back up. -/
def execWm3M (s : State) : Outcome State := s.runs fun b => (b.acceptPulse .medium).takeError .badMarker

/-- R88: EOF writes neither `bit_index` nor `data_byte` (90_conflicts.md C3). -/
def execWm3L (s : State) : Outcome State :=
  s.runs fun b => ((b.acceptPulse .long).emitSinceMarker (.marker .eof)).goto .waitMarkFirst

end Sys2Proof.Machine
end

