-- ==== Sys2Proof/Machine/Dispatch.lean ====
section
/-! DEFINITION. What each operation does, one arm per row of 30_encoding.md R64. -/

namespace Sys2Proof.Machine

def exec (i : Instr) (s : State) : Host.Outcome State Fault Refusal :=
  match i with
  | .wm1S _ _ => Sys2Proof.Machine.execWm1S s
  | .wm1M _ _ => Sys2Proof.Machine.execWm1M s
  | .wm1L _ _ => Sys2Proof.Machine.execWm1L s
  | .wm2S _ _ => Sys2Proof.Machine.execWm2S s
  | .wm2M _ _ => Sys2Proof.Machine.execWm2M s
  | .wm2L _ _ => Sys2Proof.Machine.execWm2L s
  | .wm3S _ _ => Sys2Proof.Machine.execWm3S s
  | .wm3M _ _ => Sys2Proof.Machine.execWm3M s
  | .wm3L _ _ => Sys2Proof.Machine.execWm3L s
  | .rb1S _ _ => Sys2Proof.Machine.execRb1S s
  | .rb1M _ _ => Sys2Proof.Machine.execRb1M s
  | .rb1L _ _ => Sys2Proof.Machine.execRb1L s
  | .rb2SS _ => Sys2Proof.Machine.execRb2SS s
  | .rb2SM _ => Sys2Proof.Machine.execRb2SM s
  | .rb2SL _ => Sys2Proof.Machine.execRb2SL s
  | .rb2MS _ => Sys2Proof.Machine.execRb2MS s
  | .rb2MM _ => Sys2Proof.Machine.execRb2MM s
  | .rb2ML _ => Sys2Proof.Machine.execRb2ML s
  | .rb2XS _ _ => Sys2Proof.Machine.execRb2XS s
  | .rb2XM _ _ => Sys2Proof.Machine.execRb2XM s
  | .rb2XL _ _ => Sys2Proof.Machine.execRb2XL s
  | .glitchLo _ _ => Sys2Proof.Machine.execGlitchLo s
  | .glitchHi _ _ => Sys2Proof.Machine.execGlitchHi s
  | .reset _ _ => Sys2Proof.Machine.execReset s
  | .fhold _ => Sys2Proof.Machine.execFhold s
  | .norate => Sys2Proof.Machine.execNorate s

end Sys2Proof.Machine
end

