-- ==== Sys2Proof/Machine/Step.lean ====
section
/-! DEFINITION. One step (43_step_and_glitch.md R105), and how the host's table words are presented to it. -/

namespace Sys2Proof.Machine

/-- R105: run the one operation that the sampled inputs and the state select. -/
def runLatched (s : State) : Host.Outcome State Fault Refusal :=
  match s.val.fetch with
  | .ok i => exec i s
  | .error _ => .refused .noOperation

/-- R105: one step consumes the next stimulus. With nothing presented the block waits as it is (R115; log entry 7). -/
def step (s : State) : Host.Outcome State Fault Refusal :=
  match s.val.stimuli with
  | [] => .next s
  | x :: rest => runLatched ⟨s.widths, s.val.latch x rest⟩

/-- The state whose next step runs the operation of a table word: the fields the word names, and one stimulus presented
before all others (log entry 6). A number that is no word of the table changes nothing. -/
def State.withFetchWord (s : State) (nbits w : Nat) : State :=
  match tableWord nbits w with
  | some (.dw d) => ⟨s.widths, s.val.presentDw d⟩
  | some (.ctl c) => ⟨s.widths, s.val.presentCtl c⟩
  | none => s

end Sys2Proof.Machine
end

