-- ==== Sys2Proof/Machine/Port.lean ====
section
/-! DEFINITION. The port-level realisation of 70_reset_and_hazards.md R151: one clock cycle around the step machine, with the
two handshakes. Nothing of the step machine depends on it. -/

namespace Sys2Proof.Machine

/-- R151: the input ports in one cycle. `cfg` is the six configuration inputs, which the host holds through a session
(R143, R144). -/
structure PortIn (w : Widths) where
  rst     : Bool
  cfg     : ThresholdConfig w
  inValid : Bool
  token   : Token w
  evReady : Bool
  deriving DecidableEq, Repr

/-- R151: the block, how many events of its output stream the sink has taken, and whether a token has been accepted since
the last reset, so that the session's configuration is fixed (R31, R51). -/
structure PortState where
  block     : State
  delivered : Nat
  started   : Bool
  deriving DecidableEq, Repr

/-- R151: the output ports in one cycle; `ev` is the event offered, none when `ev_valid` is 0. -/
structure PortOut (w : Widths) where
  inReady     : Bool
  ev          : Option (Event w)
  faultNoRate : Bool
  edgeSel     : BitVec 1
  deriving DecidableEq, Repr

def PortState.reset : PortState := ⟨State.reset, 0, false⟩

/-- The events the sink has not taken yet, the next one first. -/
def PortState.pending (p : PortState) : List (Event p.block.widths) := p.block.val.events.drop p.delivered

/-- R151: `in_ready` is 0 until the last event of the step has been taken. DESIGN CHOICE (log entry 10): and while `rst` is
1, since RESET consumes no token (R111). -/
def PortState.inReady (p : PortState) (i : PortIn p.block.widths) : Bool := p.pending.isEmpty && !i.rst

/-- R151, with its status outputs: `edge_sel` is the input `cfg_polarity` (R39). -/
def PortState.out (p : PortState) (i : PortIn p.block.widths) : PortOut p.block.widths where
  inReady := p.inReady i
  ev := p.pending.head?
  faultNoRate := p.block.val.faultNoRate
  edgeSel := Machine.edgeSel i.cfg

/-- The event the sink takes in this cycle (R151: `ev_valid` and `ev_ready`). -/
def PortState.taken (p : PortState) (i : PortIn p.block.widths) : Option (Event p.block.widths) :=
  if i.evReady then p.pending.head? else none

/-- How many events the sink has taken after this cycle: each is held until `ev_ready` is 1. -/
def PortState.deliveredAfter (p : PortState) (i : PortIn p.block.widths) : Nat :=
  p.delivered + (p.taken i).toList.length

/-- The stimulus the block steps on in this cycle, if any: `rst` before a token (R128); a token when `in_valid` and
`in_ready` are both 1. -/
def PortState.accepts (p : PortState) (i : PortIn p.block.widths) : Option (Stimulus p.block.widths) :=
  if i.rst then some (.reset i.cfg)
  else if i.inValid && p.inReady i then some (.token i.token)
  else none

/-- R51, U2: the token of this cycle is not the first since the reset, and the configuration inputs have changed. -/
def PortState.breaksSession (p : PortState) (i : PortIn p.block.widths) : Bool :=
  !i.rst && p.started && i.cfg != p.block.val.cfg

/-- R143 (2), R151: the block with the configuration inputs as they are in this cycle. -/
def PortState.wired (p : PortState) (i : PortIn p.block.widths) : StateAt p.block.widths :=
  { p.block.val with cfg := i.cfg }

/-- R151: one rising edge of `clk`. The first token after a reset fixes the session's configuration (R51, R143); a later
one under another is refused (U2). Events already offered stay offered through a reset (log entry 10). -/
def PortState.cycle (p : PortState) (i : PortIn p.block.widths) : Host.Outcome PortState Fault Refusal :=
  match p.accepts i with
  | none => .next { p with delivered := p.deliveredAfter i }
  | some x =>
    if p.breaksSession i then .refused .configurationChanged
    else
      match runLatched ⟨p.block.widths, (p.wired i).latch x p.block.val.stimuli⟩ with
      | .next t => .next ⟨t, p.deliveredAfter i, !i.rst⟩
      | .fault r => .fault r
      | .refused r => .refused r

end Sys2Proof.Machine
end

