-- ==== Sys2Proof/Safety.lean ====
section
/-! DEFINITION. What counts as a safe run, and the terms the claims use: the invariants of 10_state.md R32 and R33, the
premises of R30 and R126, the events an operation may emit (43_step_and_glitch.md R112, R113). -/

namespace Sys2Proof.Machine

variable {w : Widths}

/-- R126: no step has raised the fatal fault since the last reset. -/
abbrev StateAt.FaultFree (s : StateAt w) : Prop := s.st.faulted = false

/-- R33 (a): a first pulse is held exactly in `ReadBitsSecond`. -/
abbrev DecoderState.HoldsFirstExactlyInPair (d : DecoderState w) : Prop :=
  d.firstOfPair = .none ↔ d.fsmState ≠ .readBitsSecond

/-- The bits are being read: R33 (b)'s two states. -/
abbrev ReadsBits (f : FsmState) : Prop := f = .readBitsFirst ∨ f = .readBitsSecond

/-- R33 (b): while bits are read, the positions from `bit_index` up are still 0. -/
abbrev DecoderState.UnreadBitsClear (d : DecoderState w) : Prop :=
  ReadsBits d.fsmState → d.dataByte >>> d.bitIndex.toNat = 0#8

/-- R33 (a) and (b). -/
structure DecoderState.Framed (d : DecoderState w) : Prop where
  first : d.HoldsFirstExactlyInPair
  clear : d.UnreadBitsClear

/-- R30, for what the host presents: the configuration of each session satisfies the constraint. -/
abbrev Stimulus.Legal : Stimulus w → Prop
  | .token _ => True
  | .reset c => c.Legal

/-- R30, R143 (2): this session's configuration, and those of the sessions still to come. -/
abbrev StateAt.CfgLegal (s : StateAt w) : Prop := s.cfg.Legal ∧ ∀ x ∈ s.stimuli, x.Legal

/-- R33 (c), as a relation: two states that agree but for the time stamps not written since the marker or the pair began,
and for the model's own fields `raised`, `freeCount` and the wires sampled by the previous step. -/
structure SameButUnwritten (s t : StateAt w) : Prop where
  fsm       : s.st.fsmState = t.st.fsmState
  index     : s.st.bitIndex = t.st.bitIndex
  data      : s.st.dataByte = t.st.dataByte
  first     : s.st.firstOfPair = t.st.firstOfPair
  faulted   : s.st.faulted = t.st.faulted
  byteStart : s.st.fsmState ≠ .waitMarkFirst → s.st.byteStartTime = t.st.byteStartTime
  bitStart  : s.st.fsmState = .readBitsSecond → s.st.bitStartTime = t.st.bitStartTime
  cfg       : s.cfg = t.cfg
  stimuli   : s.stimuli = t.stimuli
  events    : s.events = t.events

/-- 20_memory.md R44, 42_bit_states.md R93: two valid pulses that encode one bit under a configuration. -/
abbrev IsBitPair (c : ThresholdConfig w) (b : Bool) (x y : Token w) : Prop :=
  x.rateOk = true ∧ y.rateOk = true ∧
  classify c x.us = (if b then .medium else .short) ∧ classify c y.us = (if b then .short else .medium)

/-- 30_encoding.md R64, its columns state, fop and pulse: the operation for a named state, a stored first pulse, and the
classifier's outcome `(t, g)`, whatever the words' bits are. -/
def rowOf (f : FsmState) (p : FirstOfPair) (g : Bool) (t : PulseType) : Instr :=
  match f, p, t with
  | _, _, .invalid => if g then .glitchHi f.code p.code else .glitchLo f.code p.code
  | .waitMarkFirst, _, .short => .wm1S p.code g
  | .waitMarkFirst, _, .medium => .wm1M p.code g
  | .waitMarkFirst, _, .long => .wm1L p.code g
  | .waitMarkSecond, _, .short => .wm2S p.code g
  | .waitMarkSecond, _, .medium => .wm2M p.code g
  | .waitMarkSecond, _, .long => .wm2L p.code g
  | .waitMarkThird, _, .short => .wm3S p.code g
  | .waitMarkThird, _, .medium => .wm3M p.code g
  | .waitMarkThird, _, .long => .wm3L p.code g
  | .readBitsFirst, _, .short => .rb1S p.code g
  | .readBitsFirst, _, .medium => .rb1M p.code g
  | .readBitsFirst, _, .long => .rb1L p.code g
  | .readBitsSecond, .short, .short => .rb2SS g
  | .readBitsSecond, .short, .medium => .rb2SM g
  | .readBitsSecond, .short, .long => .rb2SL g
  | .readBitsSecond, .medium, .short => .rb2MS g
  | .readBitsSecond, .medium, .medium => .rb2MM g
  | .readBitsSecond, .medium, .long => .rb2ML g
  | .readBitsSecond, .none, .short => .rb2XS false g
  | .readBitsSecond, .none, .medium => .rb2XM false g
  | .readBitsSecond, .none, .long => .rb2XL false g

/-- 43_step_and_glitch.md R112: the kinds of event an operation emits, in order, in a state whose `bit_index` is `idx`. -/
def eventKindsOf (i : Instr) (idx : BitVec 3) : List EventKind :=
  match i with
  | .wm1S _ _ | .wm1M _ _ | .wm1L _ _ | .wm2L _ _ | .rb1S _ _ | .rb1M _ _ => [.pulse]
  | .wm2M _ _ | .wm3L _ _ => [.pulse, .marker]
  | .wm2S _ _ | .wm3S _ _ | .wm3M _ _ | .rb1L _ _ => [.pulse, .error]
  | .rb2SS _ | .rb2MM _ | .rb2SL _ | .rb2ML _ | .rb2XS _ _ | .rb2XM _ _ | .rb2XL _ _ => [.pulse, .error]
  | .rb2SM _ | .rb2MS _ => if idx = 7#3 then [.pulse, .bit, .byte, .ascii] else [.pulse, .bit]
  | .glitchHi _ _ => [.error]
  | .glitchLo _ _ | .reset _ _ | .fhold _ | .norate => []

/-- 43_step_and_glitch.md R113: where the time range of an event of this kind starts, in the state its step starts from. -/
def rangeStartOf (k : EventKind) (s : StateAt w) : TimeStamp w :=
  match k with
  | .pulse | .error => s.token.start
  | .marker | .byte | .ascii => s.st.byteStartTime
  | .bit => s.st.bitStartTime

end Sys2Proof.Machine
end

