-- ==== Sys2Proof/Certificates/Slice0/Obligations.lean ====
section
/-! DEFINITION. The statements for the provers, each for every `W_US` and `W_T` (R5). Next states are written out field by field
from the rules, not through the model's operations: `{ s with … }` says that every field not named keeps its value, which is the frame of the statement. The
block has no memory (20_memory.md R40), so no frame speaks of any. The Pulse events and the time ranges are the spec's
decisions D9 and D8. -/

open Sys2Proof Sys2Proof.Machine

/-! ### The classifier (40_classifier.md), for every width of a duration -/

/-- R29: the sums do not wrap, the doubled comparisons are the exact midpoint comparisons over the rationals, and the
defaults give 930 and 1240. -/
def Obligations.MidpointComparisonsAreExact : Prop :=
  (∀ (w : Nat) (c : Thresholds w) (us : BitVec w),
    (smSum c).toNat = c.shortUs.toNat + c.mediumUs.toNat ∧
    (mlSum c).toNat = c.mediumUs.toNat + c.longUs.toNat ∧
    (us2 us).toNat = 2 * us.toNat ∧
    (us2 us < smSum c ↔ (us.toNat : ℚ) < ((c.shortUs.toNat : ℚ) + (c.mediumUs.toNat : ℚ)) / 2) ∧
    (us2 us < mlSum c ↔ (us.toNat : ℚ) < ((c.mediumUs.toNat : ℚ) + (c.longUs.toNat : ℚ)) / 2)) ∧
  (smSum ThresholdConfig.default).toNat = 930 ∧ (mlSum ThresholdConfig.default).toNat = 1240

/-- R70, R78: CLASSIFY with the source's exact midpoints, for every duration and every configuration; its result and
`ge_min` (R72) stand in `dw[1:0]` and `dw[2]`. -/
def Obligations.ClassifyIsTheSourceFunction : Prop :=
  (∀ (w : Nat) (c : Thresholds w) (us : BitVec w),
    classify c us =
      if us.toNat < c.minValidUs.toNat ∨ c.maxValidUs.toNat < us.toNat then .invalid
      else if (us.toNat : ℚ) < ((c.shortUs.toNat : ℚ) + (c.mediumUs.toNat : ℚ)) / 2 then .short
      else if (us.toNat : ℚ) < ((c.mediumUs.toNat : ℚ) + (c.longUs.toNat : ℚ)) / 2 then .medium
      else .long) ∧
  ∀ (w : Widths) (s : StateAt w),
    s.dispatchWord.extractLsb' 0 2 = (classify s.cfg s.token.us).code ∧
    s.dispatchWord.getLsbD 2 = decide (s.cfg.minValidUs ≤ s.token.us)

/-- R72 to R77: the five outcomes, each by the condition its rule gives it; a valid pulse has `ge_min` = 1; and, for a
configuration in which the window is not empty (R30), `ge_min` tells the two kinds of Invalid apart. -/
def Obligations.FiveOutcomesOfTheClassifier : Prop :=
  ∀ (w : Nat) (c : Thresholds w) (us : BitVec w),
    ((classify c us = .invalid ∧ geMin c us = false) ↔ us < c.minValidUs) ∧
    ((classify c us = .invalid ∧ geMin c us = true) ↔ c.minValidUs ≤ us ∧ c.maxValidUs < us) ∧
    (classify c us = .short ↔ c.minValidUs ≤ us ∧ us ≤ c.maxValidUs ∧ us2 us < smSum c) ∧
    (classify c us = .medium ↔
      c.minValidUs ≤ us ∧ us ≤ c.maxValidUs ∧ smSum c ≤ us2 us ∧ us2 us < mlSum c) ∧
    (classify c us = .long ↔
      c.minValidUs ≤ us ∧ us ≤ c.maxValidUs ∧ smSum c ≤ us2 us ∧ mlSum c ≤ us2 us) ∧
    (classify c us ≠ .invalid → geMin c us = true) ∧
    (c.Legal → classify c us = .invalid → (geMin c us = true ↔ c.maxValidUs < us))

/-- R79 (c): under R30 the edges of the window are Short and Long, and Medium is reachable exactly when a whole number lies
between the two midpoints. -/
def Obligations.EdgesOfTheWindowAreShortAndLong : Prop :=
  ∀ (w : Nat) (c : Thresholds w), c.Legal →
    classify c c.minValidUs = .short ∧ classify c c.maxValidUs = .long ∧
    ((∃ us : BitVec w, classify c us = .medium) ↔
      ∃ n : Nat, c.shortUs.toNat + c.mediumUs.toNat ≤ 2 * n ∧ 2 * n < c.mediumUs.toNat + c.longUs.toNat)

/-- R79 (d): when `sm_sum <= ml_sum` the outcome moves through Invalid, Short, Medium, Long, Invalid and never back. -/
def Obligations.ClassifierIsMonotone : Prop :=
  ∀ (w : Nat) (c : Thresholds w) (a b : BitVec w), smSum c ≤ mlSum c → a ≤ b →
    (classify c a ≠ .invalid → classify c b ≠ .invalid → (classify c a).code ≤ (classify c b).code) ∧
    (classify c b = .invalid → geMin c b = false → classify c a = .invalid ∧ geMin c a = false) ∧
    (c.maxValidUs < a → classify c b = .invalid)

/-- R79 (e): the ranges under the default configuration, in every width that holds its numbers. -/
def Obligations.DefaultRangesOfDurations : Prop :=
  ∀ (w : Nat) (us : BitVec w), 11 ≤ w → ∀ c, c = Thresholds.default w →
    (us.toNat < 150 → classify c us = .invalid ∧ geMin c us = false) ∧
    (150 ≤ us.toNat → us.toNat ≤ 464 → classify c us = .short) ∧
    (465 ≤ us.toNat → us.toNat ≤ 619 → classify c us = .medium) ∧
    (620 ≤ us.toNat → us.toNat ≤ 1200 → classify c us = .long) ∧
    (1201 ≤ us.toNat → classify c us = .invalid ∧ geMin c us = true)

/-! ### Encodings (30_encoding.md) -/

/-- R62 to R64, R67: a word decodes to an operation exactly when it is the word the encoder writes for it, with every
ignored bit at every value. -/
def Obligations.DecodeIsTheInverseOfEncode : Prop :=
  ∀ (w : InstrWord) (i : Instr), decode w = .ok i ↔ encode i = w

/-- R64, R66 (a): for every dispatch word exactly one row of the operation map selects it, but for the words with a reserved
state code and a valid pulse type, which no row selects. -/
def Obligations.RowsAreDisjointAndCover : Prop :=
  ∀ w : BitVec 8,
    (dwRows.filter (fun r => r.selects w)).length =
      if dwState w ≤ 4#3 ∨ dwPtype w = PulseType.invalid.code then 1 else 0

/-- R64: the match and mask rows select the operation of the columns state, fop and pulse. -/
def Obligations.DispatchFollowsTheTransitionTable : Prop :=
  ∀ (f : FsmState) (p : FirstOfPair) (g : Bool) (t : PulseType),
    decode (.dw (dwWord f.code p.code g t.code)) = .ok (rowOf f p g t)

/-- 95_test_vectors.md 2.6: words written out there select the operations named there; `0xA5` selects none. -/
def Obligations.WrittenWordsDecode : Prop :=
  decode (.dw 0x06#8) = .ok (.wm1L 0#2 true) ∧
  decode (.dw 0x25#8) = .ok (.wm2M 0#2 true) ∧
  decode (.dw 0x64#8) = .ok (.rb1S 0#2 true) ∧
  decode (.dw 0x9C#8) = .ok (.rb2MS true) ∧
  decode (.dw 0x86#8) = .ok (.rb2XL false true) ∧
  decode (.dw 0x63#8) = .ok (.glitchLo 3#3 0#2) ∧
  decode (.dw 0xA5#8) = .error (.reservedState 5#3) ∧
  decode (.ctl 0b000#3) = .ok .norate

/-- R66 (a), (b), (d), R33: from a state of R33 (a) a step only ever forms words of the well-formed operations. -/
def Obligations.OnlyProducibleWordsAreFetched : Prop :=
  ∀ (w : Widths) (s : StateAt w) (i : Instr), s.st.HoldsFirstExactlyInPair → s.fetch = .ok i → i.wellFormed = true

/-- R57 to R61: the event word carries kind, payload, start and end in the places of R58, and the codes are those of the
rules. A Pulse event of an Invalid pulse, which no step emits (R106), would carry R53's code 0b11. -/
def Obligations.EventWordLayout : Prop :=
  (∀ (w : Widths) (e : Event w),
    e.word.extractLsb' (2 * w.W_T + 8) 3 = e.body.kind.code ∧
    e.word.extractLsb' (2 * w.W_T) 8 = e.body.payload ∧
    e.word.extractLsb' w.W_T w.W_T = e.start ∧
    e.word.extractLsb' 0 w.W_T = e.stop) ∧
  (∀ b : EventBody,
    match b with
    | .pulse p => b.kind.code = 0b000#3 ∧
        b.payload = (match p with | .short => 0x00#8 | .medium => 0x01#8 | .long => 0x02#8 | .invalid => 0x03#8)
    | .marker l => b.kind.code = 0b001#3 ∧ b.payload = (match l with | .byteStart => 0x00#8 | .eof => 0x01#8)
    | .bit v => b.kind.code = 0b010#3 ∧ b.payload = (if v then 0x01#8 else 0x00#8)
    | .byte v => b.kind.code = 0b011#3 ∧ b.payload = v
    | .ascii c => b.kind.code = 0b100#3 ∧ b.payload = c
    | .error l => b.kind.code = 0b101#3 ∧
        b.payload = (match l with
          | .badMarker => 0x00#8 | .badBitStart => 0x01#8 | .badBitPair => 0x02#8 | .glitch => 0x03#8))

/-- R56: the four fields of a token are read back from its word, and every word is a token's. -/
def Obligations.TokenWordRoundTrip : Prop :=
  ∀ w : Widths, (∀ t : Token w, Token.ofWord t.word = t) ∧
    ∀ v : BitVec (1 + w.W_US + w.W_T + w.W_T), (Token.ofWord v).word = v

/-! ### The operations -/

/-- R81, R82. -/
def Obligations.ShortAndMediumAreIgnoredBeforeAMarker : Prop :=
  (∀ w : BitVec 8, w &&& 0xE3#8 = 0x00#8 ↔ ∃ f g, decode (.dw w) = .ok (.wm1S f g)) ∧
  (∀ w : BitVec 8, w &&& 0xE3#8 = 0x01#8 ↔ ∃ f g, decode (.dw w) = .ok (.wm1M f g)) ∧
  ∀ (w : Widths) (s : StateAt w) (f : BitVec 2) (g : Bool),
    exec (.wm1S f g) ⟨w, s⟩ = .next ⟨w, { s with
      st := { s.st with fsmState := .waitMarkFirst }
      events := s.events ++ [⟨.pulse .short, s.token.start, s.token.stop⟩] }⟩ ∧
    exec (.wm1M f g) ⟨w, s⟩ = .next ⟨w, { s with
      st := { s.st with fsmState := .waitMarkFirst }
      events := s.events ++ [⟨.pulse .medium, s.token.start, s.token.stop⟩] }⟩

/-- R80, with its remark that no other operation writes `byte_start_time` (RESET leaves it without a defined value, R111). -/
def Obligations.LongOpensAMarker : Prop :=
  (∀ w : BitVec 8, w &&& 0xE3#8 = 0x02#8 ↔ ∃ f g, decode (.dw w) = .ok (.wm1L f g)) ∧
  (∀ (w : Widths) (s : StateAt w) (f : BitVec 2) (g : Bool),
    exec (.wm1L f g) ⟨w, s⟩ = .next ⟨w, { s with
      st := { s.st with byteStartTime := s.token.start, fsmState := .waitMarkSecond }
      events := s.events ++ [⟨.pulse .long, s.token.start, s.token.stop⟩] }⟩) ∧
  ∀ (w : Widths) (s t : StateAt w) (i : Instr), exec i ⟨w, s⟩ = .next ⟨w, t⟩ →
    t.st.byteStartTime ≠ s.st.byteStartTime →
    (∃ f g, i = .wm1L f g) ∨ ∃ f k, i = .reset f k

/-- R83, R86, R87: the three ways to a bad marker, one Error event with payload 0x00 of the class FramingError. -/
def Obligations.BadMarkerIsReportedAndResynchronised : Prop :=
  (∀ w : BitVec 8, w &&& 0xE3#8 = 0x20#8 ↔ ∃ f g, decode (.dw w) = .ok (.wm2S f g)) ∧
  (∀ w : BitVec 8, w &&& 0xE3#8 = 0x40#8 ↔ ∃ f g, decode (.dw w) = .ok (.wm3S f g)) ∧
  (∀ w : BitVec 8, w &&& 0xE3#8 = 0x41#8 ↔ ∃ f g, decode (.dw w) = .ok (.wm3M f g)) ∧
  (EventBody.error .badMarker).payload = 0x00#8 ∧ ErrorLabel.badMarker.errorClass = .framingError ∧
  ∀ (w : Widths) (s : StateAt w) (f : BitVec 2) (g : Bool),
    exec (.wm2S f g) ⟨w, s⟩ = .next ⟨w, { s with
      st := { s.st with fsmState := .waitMarkFirst }
      events := s.events ++ [⟨.pulse .short, s.token.start, s.token.stop⟩,
        ⟨.error .badMarker, s.token.start, s.token.stop⟩] }⟩ ∧
    exec (.wm3S f g) ⟨w, s⟩ = .next ⟨w, { s with
      st := { s.st with fsmState := .waitMarkFirst }
      events := s.events ++ [⟨.pulse .short, s.token.start, s.token.stop⟩,
        ⟨.error .badMarker, s.token.start, s.token.stop⟩] }⟩ ∧
    exec (.wm3M f g) ⟨w, s⟩ = .next ⟨w, { s with
      st := { s.st with fsmState := .waitMarkFirst }
      events := s.events ++ [⟨.pulse .medium, s.token.start, s.token.stop⟩,
        ⟨.error .badMarker, s.token.start, s.token.stop⟩] }⟩

/-- R85. -/
def Obligations.SecondLongLeadsToTheEndMarker : Prop :=
  (∀ w : BitVec 8, w &&& 0xE3#8 = 0x22#8 ↔ ∃ f g, decode (.dw w) = .ok (.wm2L f g)) ∧
  ∀ (w : Widths) (s : StateAt w) (f : BitVec 2) (g : Bool),
    exec (.wm2L f g) ⟨w, s⟩ = .next ⟨w, { s with
      st := { s.st with fsmState := .waitMarkThird }
      events := s.events ++ [⟨.pulse .long, s.token.start, s.token.stop⟩] }⟩

/-- R84, R88: the two markers, each from the start of its first Long to the end of this pulse; EOF keeps `bit_index` and
`data_byte` (90_conflicts.md C3). -/
def Obligations.MarkersAreAccepted : Prop :=
  (∀ w : BitVec 8, w &&& 0xE3#8 = 0x21#8 ↔ ∃ f g, decode (.dw w) = .ok (.wm2M f g)) ∧
  (∀ w : BitVec 8, w &&& 0xE3#8 = 0x42#8 ↔ ∃ f g, decode (.dw w) = .ok (.wm3L f g)) ∧
  (EventBody.marker .byteStart).payload = 0x00#8 ∧ (EventBody.marker .eof).payload = 0x01#8 ∧
  ∀ (w : Widths) (s : StateAt w) (f : BitVec 2) (g : Bool),
    exec (.wm2M f g) ⟨w, s⟩ = .next ⟨w, { s with
      st := { s.st with bitIndex := 0#3, dataByte := 0x00#8, fsmState := .readBitsFirst }
      events := s.events ++ [⟨.pulse .medium, s.token.start, s.token.stop⟩,
        ⟨.marker .byteStart, s.st.byteStartTime, s.token.stop⟩] }⟩ ∧
    exec (.wm3L f g) ⟨w, s⟩ = .next ⟨w, { s with
      st := { s.st with fsmState := .waitMarkFirst }
      events := s.events ++ [⟨.pulse .long, s.token.start, s.token.stop⟩,
        ⟨.marker .eof, s.st.byteStartTime, s.token.stop⟩] }⟩

/-- R90, R91. -/
def Obligations.FirstPulseOfAPairIsStored : Prop :=
  (∀ w : BitVec 8, w &&& 0xE3#8 = 0x60#8 ↔ ∃ f g, decode (.dw w) = .ok (.rb1S f g)) ∧
  (∀ w : BitVec 8, w &&& 0xE3#8 = 0x61#8 ↔ ∃ f g, decode (.dw w) = .ok (.rb1M f g)) ∧
  FirstOfPair.short.code = 0b10#2 ∧ FirstOfPair.medium.code = 0b11#2 ∧
  ∀ (w : Widths) (s : StateAt w) (f : BitVec 2) (g : Bool),
    exec (.rb1S f g) ⟨w, s⟩ = .next ⟨w, { s with
      st := { s.st with firstOfPair := .short, bitStartTime := s.token.start, fsmState := .readBitsSecond }
      events := s.events ++ [⟨.pulse .short, s.token.start, s.token.stop⟩] }⟩ ∧
    exec (.rb1M f g) ⟨w, s⟩ = .next ⟨w, { s with
      st := { s.st with firstOfPair := .medium, bitStartTime := s.token.start, fsmState := .readBitsSecond }
      events := s.events ++ [⟨.pulse .medium, s.token.start, s.token.stop⟩] }⟩

/-- R92: `bit_index` and `data_byte` keep their partial values; neither is named below. -/
def Obligations.LongInsteadOfAPairDiscardsTheByte : Prop :=
  (∀ w : BitVec 8, w &&& 0xE3#8 = 0x62#8 ↔ ∃ f g, decode (.dw w) = .ok (.rb1L f g)) ∧
  (EventBody.error .badBitStart).payload = 0x01#8 ∧ ErrorLabel.badBitStart.errorClass = .framingError ∧
  ∀ (w : Widths) (s : StateAt w) (f : BitVec 2) (g : Bool),
    exec (.rb1L f g) ⟨w, s⟩ = .next ⟨w, { s with
      st := { s.st with fsmState := .waitMarkFirst }
      events := s.events ++ [⟨.pulse .long, s.token.start, s.token.stop⟩,
        ⟨.error .badBitStart, s.token.start, s.token.stop⟩] }⟩

/-- R93, R95, R96, R94: a completed pair, before and at the eighth bit. The time ranges are the spec's decision D8, and
0x2E, the code of the full stop in the Ascii event, is marked by R94 as general knowledge, not in the source (G1). The
shifted bit is written as a number: `2^bit_index` for 1, nothing for 0 (R104). -/
def Obligations.ACompletedPairAccumulatesItsBit : Prop :=
  (∀ w : BitVec 8, w &&& 0xFB#8 = 0x91#8 ↔ ∃ g, decode (.dw w) = .ok (.rb2SM g)) ∧
  (∀ w : BitVec 8, w &&& 0xFB#8 = 0x98#8 ↔ ∃ g, decode (.dw w) = .ok (.rb2MS g)) ∧
  ∀ (w : Widths) (s : StateAt w) (g b : Bool) (byte : Byte),
    byte = s.st.dataByte ||| (if b then BitVec.ofNat 8 (2 ^ s.st.bitIndex.toNat) else 0x00#8) →
    (s.st.bitIndex ≠ 7#3 →
      exec (if b then .rb2MS g else .rb2SM g) ⟨w, s⟩ = .next ⟨w, { s with
        st := { s.st with dataByte := byte, firstOfPair := .none, bitIndex := s.st.bitIndex + 1#3, fsmState := .readBitsFirst }
        events := s.events ++ [⟨.pulse (if b then .short else .medium), s.token.start, s.token.stop⟩,
          ⟨.bit b, s.st.bitStartTime, s.token.stop⟩] }⟩) ∧
    (s.st.bitIndex = 7#3 →
      exec (if b then .rb2MS g else .rb2SM g) ⟨w, s⟩ = .next ⟨w, { s with
        st := { s.st with dataByte := byte, firstOfPair := .none, bitIndex := 0#3, fsmState := .waitMarkFirst }
        events := s.events ++ [⟨.pulse (if b then .short else .medium), s.token.start, s.token.stop⟩,
          ⟨.bit b, s.st.bitStartTime, s.token.stop⟩, ⟨.byte byte, s.st.byteStartTime, s.token.stop⟩,
          ⟨.ascii (if 0x20 ≤ byte.toNat ∧ byte.toNat ≤ 0x7E then byte else 0x2E#8),
            s.st.byteStartTime, s.token.stop⟩] }⟩)

/-- R97 to R103: every pair that is no bit, the unreachable rows among them. -/
def Obligations.ABadPairDiscardsTheByte : Prop :=
  (∀ w : BitVec 8, w &&& 0xFB#8 = 0x90#8 ↔ ∃ g, decode (.dw w) = .ok (.rb2SS g)) ∧
  (∀ w : BitVec 8, w &&& 0xFB#8 = 0x99#8 ↔ ∃ g, decode (.dw w) = .ok (.rb2MM g)) ∧
  (∀ w : BitVec 8, w &&& 0xFB#8 = 0x92#8 ↔ ∃ g, decode (.dw w) = .ok (.rb2SL g)) ∧
  (∀ w : BitVec 8, w &&& 0xFB#8 = 0x9A#8 ↔ ∃ g, decode (.dw w) = .ok (.rb2ML g)) ∧
  (∀ w : BitVec 8, w &&& 0xF3#8 = 0x80#8 ↔ ∃ l g, decode (.dw w) = .ok (.rb2XS l g)) ∧
  (∀ w : BitVec 8, w &&& 0xF3#8 = 0x81#8 ↔ ∃ l g, decode (.dw w) = .ok (.rb2XM l g)) ∧
  (∀ w : BitVec 8, w &&& 0xF3#8 = 0x82#8 ↔ ∃ l g, decode (.dw w) = .ok (.rb2XL l g)) ∧
  (EventBody.error .badBitPair).payload = 0x02#8 ∧ ErrorLabel.badBitPair.errorClass = .framingError ∧
  ∀ (i : Instr) (p : PulseType) (l g : Bool),
    (i, p) ∈ [(.rb2SS g, .short), (.rb2MM g, .medium), (.rb2SL g, .long), (.rb2ML g, .long),
      (.rb2XS l g, .short), (.rb2XM l g, .medium), (.rb2XL l g, .long)] →
    ∀ (w : Widths) (s : StateAt w), exec i ⟨w, s⟩ = .next ⟨w, { s with
      st := { s.st with firstOfPair := .none, fsmState := .waitMarkFirst }
      events := s.events ++ [⟨.pulse p, s.token.start, s.token.stop⟩,
        ⟨.error .badBitPair, s.token.start, s.token.stop⟩] }⟩

/-- R107, R108. -/
def Obligations.GlitchesResynchronise : Prop :=
  (∀ w : BitVec 8, w &&& 0x07#8 = 0x03#8 ↔ ∃ st f, decode (.dw w) = .ok (.glitchLo st f)) ∧
  (∀ w : BitVec 8, w &&& 0x07#8 = 0x07#8 ↔ ∃ st f, decode (.dw w) = .ok (.glitchHi st f)) ∧
  (EventBody.error .glitch).payload = 0x03#8 ∧ ErrorLabel.glitch.errorClass = .glitchError ∧
  ∀ (w : Widths) (s : StateAt w) (st : BitVec 3) (f : BitVec 2),
    exec (.glitchLo st f) ⟨w, s⟩ = .next ⟨w, { s with
      st := { s.st with firstOfPair := .none, fsmState := .waitMarkFirst } }⟩ ∧
    exec (.glitchHi st f) ⟨w, s⟩ = .next ⟨w, { s with
      st := { s.st with firstOfPair := .none, fsmState := .waitMarkFirst }
      events := s.events ++ [⟨.error .glitch, s.token.start, s.token.stop⟩] }⟩

/-- R109, R110. That the fault outcome is a next state that records it in `raised` is the model's choice (log entry 5). -/
def Obligations.MissingSampleRateIsRaisedAndHeld : Prop :=
  (∀ w : BitVec 3, w = 0b000#3 ↔ decode (.ctl w) = .ok .norate) ∧
  (∀ w : BitVec 3, w &&& 0b110#3 = 0b010#3 ↔ ∃ k, decode (.ctl w) = .ok (.fhold k)) ∧
  ∀ (w : Widths) (s : StateAt w) (k : Bool),
    exec .norate ⟨w, s⟩ =
      .next ⟨w, { s with st := { s.st with faulted := true }, raised := some .missingSampleRate }⟩ ∧
    exec (.fhold k) ⟨w, s⟩ = .next ⟨w, { s with raised := some .missingSampleRate }⟩

/-- R111: whatever values the two time stamps then hold. That they, and the index of the free values, are what the model
leaves open is its choice (log entry 4). -/
def Obligations.ResetOperationGivesTheResetState : Prop :=
  (∀ w : BitVec 3, w &&& 0b100#3 = 0b100#3 ↔ ∃ f k, decode (.ctl w) = .ok (.reset f k)) ∧
  ∀ (w : Widths) (s : StateAt w) (f k : Bool), ∃ (a b : TimeStamp w) (n : Nat),
    exec (.reset f k) ⟨w, s⟩ = .next ⟨w, { s with
      st := { fsmState := .waitMarkFirst, bitIndex := 0#3, dataByte := 0x00#8, firstOfPair := .none,
              byteStartTime := a, bitStartTime := b, faulted := false }
      freeCount := n }⟩

/-- R94. -/
def Obligations.AsciiPayload : Prop :=
  ∀ v : Byte,
    (0x20 ≤ v.toNat ∧ v.toNat ≤ 0x7E → asciiOf v = v) ∧
    (v.toNat < 0x20 ∨ 0x7E < v.toNat → asciiOf v = 0x2E#8)

/-! ### What is written where, and what an operation may emit -/

/-- R20, its column "written by", and R28: each of the seven fields changes only under the operations that name it; the
configuration and the inputs never do. That RESET may change the two time stamps is R111 (log entry 4). -/
def Obligations.OnlyTheNamedOperationsWriteAField : Prop :=
  ∀ (w : Widths) (i : Instr) (s t : StateAt w), exec i ⟨w, s⟩ = .next ⟨w, t⟩ →
    (t.st.fsmState ≠ s.st.fsmState → (∀ k, i ≠ .fhold k) ∧ i ≠ .norate) ∧
    (t.st.bitIndex ≠ s.st.bitIndex ∨ t.st.dataByte ≠ s.st.dataByte →
      (∃ f g, i = .wm2M f g) ∨ (∃ g, i = .rb2SM g) ∨ (∃ g, i = .rb2MS g) ∨ ∃ f k, i = .reset f k) ∧
    (t.st.firstOfPair ≠ s.st.firstOfPair →
      (∃ f g, i = .rb1S f g) ∨ (∃ f g, i = .rb1M f g) ∨
      (∃ g, i = .rb2SS g ∨ i = .rb2SM g ∨ i = .rb2SL g ∨ i = .rb2MS g ∨ i = .rb2MM g ∨ i = .rb2ML g) ∨
      (∃ l g, i = .rb2XS l g ∨ i = .rb2XM l g ∨ i = .rb2XL l g) ∨
      (∃ c f, i = .glitchLo c f ∨ i = .glitchHi c f) ∨ ∃ f k, i = .reset f k) ∧
    (t.st.firstOfPair ≠ s.st.firstOfPair → t.st.firstOfPair ≠ .none →
      (∃ f g, i = .rb1S f g) ∨ ∃ f g, i = .rb1M f g) ∧
    (t.st.byteStartTime ≠ s.st.byteStartTime → (∃ f g, i = .wm1L f g) ∨ ∃ f k, i = .reset f k) ∧
    (t.st.bitStartTime ≠ s.st.bitStartTime →
      (∃ f g, i = .rb1S f g) ∨ (∃ f g, i = .rb1M f g) ∨ ∃ f k, i = .reset f k) ∧
    (t.st.faulted ≠ s.st.faulted → i = .norate ∨ ∃ f k, i = .reset f k) ∧
    t.cfg = s.cfg ∧ t.rst = s.rst ∧ t.token = s.token ∧ t.stimuli = s.stimuli

/-- R112: the events of an operation, by kind and in order, and nothing else happens to the output stream (R42). -/
def Obligations.EventsOfEachOperation : Prop :=
  ∀ (w : Widths) (i : Instr) (s t : StateAt w), exec i ⟨w, s⟩ = .next ⟨w, t⟩ →
    ∃ new : List (Event w), t.events = s.events ++ new ∧
      new.map (fun e => e.body.kind) = eventKindsOf i s.st.bitIndex

/-- R113: the time range of every event an operation emits. -/
def Obligations.TimeRangesOfEvents : Prop :=
  ∀ (w : Widths) (i : Instr) (s t : StateAt w), exec i ⟨w, s⟩ = .next ⟨w, t⟩ →
    ∀ e ∈ t.events.drop s.events.length,
      e.start = rangeStartOf e.body.kind s ∧ e.stop = s.token.stop

/-- R112, R42: a step appends to the output stream at most four events, at most one of each kind, and amends none. -/
def Obligations.AStepEmitsAtMostFourEvents : Prop :=
  ∀ (w : Widths) (s t : StateAt w), step ⟨w, s⟩ = .next ⟨w, t⟩ →
    ∃ new : List (Event w), t.events = s.events ++ new ∧ new.length ≤ 4 ∧ (new.map (fun e => e.body.kind)).Nodup

/-- R23, R104, R44: in a state of R33 (b), completing a pair with the bit `b` makes bit `bit_index` of `data_byte` that bit,
keeps the bits below it and leaves the bits above it 0. -/
def Obligations.ACompletedPairInsertsItsBit : Prop :=
  ∀ (w : Widths) (s t : StateAt w) (g b : Bool), s.st.fsmState = .readBitsSecond → s.st.UnreadBitsClear →
    exec (if b then .rb2MS g else .rb2SM g) ⟨w, s⟩ = .next ⟨w, t⟩ →
    ∀ k : Nat, t.st.dataByte.getLsbD k =
      if k = s.st.bitIndex.toNat then b else if k < s.st.bitIndex.toNat then s.st.dataByte.getLsbD k else false

/-! ### The step -/

/-- R105, R115: a step samples the next stimulus and runs exactly the operation it selects; with nothing presented the state
is held (log entry 7). That a presented reset brings the configuration `c` of the session it starts is the model's form of
R143 (log entry 6); the operation RESET itself does not touch the configuration (R140). -/
def Obligations.AStepRunsTheDecodedOperation : Prop :=
  (∀ (w : Widths) (s : StateAt w), s.stimuli = [] → step ⟨w, s⟩ = .next ⟨w, s⟩) ∧
  (∀ (w : Widths) (s : StateAt w) (t : Token w) (rest : List (Stimulus w)) (i : Instr),
    s.stimuli = .token t :: rest →
    ∀ s', s' = { s with rst := false, token := t, stimuli := rest, raised := none } →
      (decode (.ctl s'.controlWord) = .ok i → step ⟨w, s⟩ = exec i ⟨w, s'⟩) ∧
      (decode (.ctl s'.controlWord) = .error .normalDispatch → decode (.dw s'.dispatchWord) = .ok i →
        step ⟨w, s⟩ = exec i ⟨w, s'⟩)) ∧
  ∀ (w : Widths) (s : StateAt w) (c : ThresholdConfig w) (rest : List (Stimulus w)) (i : Instr),
    s.stimuli = .reset c :: rest →
    ∀ s', s' = { s with rst := true, cfg := c, stimuli := rest, raised := none } →
      decode (.ctl s'.controlWord) = .ok i → step ⟨w, s⟩ = exec i ⟨w, s'⟩

/-- R128, R105: what a step does, in the order of priority. That a presented reset brings its session's configuration is
log entry 6. -/
def Obligations.PriorityOfConditions : Prop :=
  (∀ (w : Widths) (s : StateAt w) (c : ThresholdConfig w) (rest : List (Stimulus w)),
    s.stimuli = .reset c :: rest →
    ∃ f k, step ⟨w, s⟩ = exec (.reset f k) ⟨w, { s with rst := true, cfg := c, stimuli := rest, raised := none }⟩) ∧
  ∀ (w : Widths) (s s' : StateAt w) (t : Token w) (rest : List (Stimulus w)),
    s.stimuli = .token t :: rest → s.cfg.Legal →
    s' = { s with rst := false, token := t, stimuli := rest, raised := none } →
    (s.st.faulted = true → ∃ k, step ⟨w, s⟩ = exec (.fhold k) ⟨w, s'⟩) ∧
    (s.st.faulted = false → t.rateOk = false → step ⟨w, s⟩ = exec .norate ⟨w, s'⟩) ∧
    (s.st.faulted = false → t.rateOk = true →
      (t.us < s.cfg.minValidUs → ∃ st f, step ⟨w, s⟩ = exec (.glitchLo st f) ⟨w, s'⟩) ∧
      (s.cfg.maxValidUs < t.us → ∃ st f, step ⟨w, s⟩ = exec (.glitchHi st f) ⟨w, s'⟩) ∧
      (s.cfg.minValidUs ≤ t.us → t.us ≤ s.cfg.maxValidUs →
        step ⟨w, s⟩ = exec (rowOf s.st.fsmState s.st.firstOfPair true (classify s.cfg t.us)) ⟨w, s'⟩))

/-- R105, R66: nothing traps and nothing is refused; every step, from every state, answers a next state, of the same widths
(R5). (That the two faults answer one is log entry 5.) -/
def Obligations.EveryStepAnswersANextState : Prop :=
  ∀ (w : Widths) (s : StateAt w), ∃ t : StateAt w, step ⟨w, s⟩ = .next ⟨w, t⟩

/-- R36, R141: the reset state's values that the spec gives. -/
def Obligations.ResetStateValues : Prop :=
  State.reset.val.st.fsmState = .waitMarkFirst ∧ State.reset.val.st.bitIndex = 0#3 ∧
  State.reset.val.st.dataByte = 0x00#8 ∧ State.reset.val.st.firstOfPair = .none ∧
  State.reset.val.st.faulted = false

/-- R33 (a), (b), R30, R126 at reset. -/
def Obligations.FramingInvariantAtReset : Prop :=
  State.reset.val.st.Framed ∧ State.reset.val.CfgLegal ∧ State.reset.val.FaultFree

/-- R33 (a), (b): every step, from every state of the invariant, keeps it. -/
def Obligations.EveryStepKeepsTheFramingInvariant : Prop :=
  ∀ (w : Widths) (s t : StateAt w), s.st.Framed → step ⟨w, s⟩ = .next ⟨w, t⟩ → t.st.Framed

/-- R31, R51, R144: the configuration is the same at every step of a session; only the reset that starts a session brings
another; and it stays legal if what the host presents is. How a session's configuration arrives is log entry 6. -/
def Obligations.TheConfigurationIsFixedPerSession : Prop :=
  ∀ (w : Widths) (s t : StateAt w), step ⟨w, s⟩ = .next ⟨w, t⟩ →
    (t.cfg = s.cfg ∨ ∃ c rest, s.stimuli = .reset c :: rest ∧ t.cfg = c) ∧ (s.CfgLegal → t.CfgLegal)

/-- R27, R126: `faulted` is set by a token without a sample rate only, and cleared by a reset only; while it is 1 a token
changes nothing of the block, emits nothing and raises the fault again (in the model's form, log entry 5). -/
def Obligations.TheFaultIsHeldUntilReset : Prop :=
  (∀ (w : Widths) (s t : StateAt w) (x : Token w) (rest : List (Stimulus w)),
    s.stimuli = .token x :: rest → s.st.faulted = true →
    step ⟨w, s⟩ = .next ⟨w, t⟩ → t.st = s.st ∧ t.events = s.events ∧ t.raised = some .missingSampleRate) ∧
  (∀ (w : Widths) (s t : StateAt w), step ⟨w, s⟩ = .next ⟨w, t⟩ → s.st.faulted = true → t.st.faulted = false →
    ∃ c rest, s.stimuli = .reset c :: rest) ∧
  ∀ (w : Widths) (s t : StateAt w), step ⟨w, s⟩ = .next ⟨w, t⟩ → s.st.faulted = false → t.st.faulted = true →
    ∃ x rest, s.stimuli = .token x :: rest ∧ x.rateOk = false ∧ t.raised = some .missingSampleRate

/-- R125: an Invalid pulse, in any state. -/
def Obligations.AnInvalidPulseInAnyState : Prop :=
  ∀ (w : Widths) (s : StateAt w) (x : Token w) (rest : List (Stimulus w)),
    s.stimuli = .token x :: rest → s.st.faulted = false →
    x.rateOk = true → s.cfg.Legal → classify s.cfg x.us = .invalid →
    step ⟨w, s⟩ = .next ⟨w, { s with
      st := { s.st with firstOfPair := .none, fsmState := .waitMarkFirst }
      rst := false, token := x, stimuli := rest, raised := none
      events := s.events ++ (if s.cfg.minValidUs ≤ x.us then [⟨.error .glitch, x.start, x.stop⟩] else []) }⟩ ∧
    (s.cfg.minValidUs ≤ x.us ↔ s.cfg.maxValidUs < x.us)

/-- R129, R131: every step that reports an error goes to `WaitMarkFirst` and writes nothing else of the block, but that
from a state of R33 (a) no first pulse is held afterwards. -/
def Obligations.EveryReportedErrorResynchronises : Prop :=
  ∀ (w : Widths) (s t : StateAt w) (e : Event w), step ⟨w, s⟩ = .next ⟨w, t⟩ →
    e ∈ t.events.drop s.events.length → e.body.kind = .error →
    t.st.fsmState = .waitMarkFirst ∧ t.st.bitIndex = s.st.bitIndex ∧ t.st.dataByte = s.st.dataByte ∧
    t.st.byteStartTime = s.st.byteStartTime ∧ t.st.bitStartTime = s.st.bitStartTime ∧
    t.st.faulted = s.st.faulted ∧ e.start = t.token.start ∧ e.stop = t.token.stop ∧
    (s.st.HoldsFirstExactlyInPair → t.st.firstOfPair = .none)

/-- R33 (c), R36, R116: the values the time stamps hold before they are written reach no event. Two states that differ in
those alone step alike: the same events, and states that again differ in those alone. -/
def Obligations.UnwrittenTimeStampsAreNeverObserved : Prop :=
  ∀ (w : Widths) (s t s' t' : StateAt w), SameButUnwritten s t → step ⟨w, s⟩ = .next ⟨w, s'⟩ →
    step ⟨w, t⟩ = .next ⟨w, t'⟩ → SameButUnwritten s' t'

/-- R38, R52, R116: beside the seven fields, the configuration and the token a step reads nothing, the output stream least
of all. -/
def Obligations.AStepReadsOnlyStateConfigurationAndToken : Prop :=
  ∀ (w : Widths) (s t s' t' : StateAt w) (x : Token w) (r r' : List (Stimulus w)),
    s.st = t.st → s.cfg = t.cfg →
    s.stimuli = .token x :: r → t.stimuli = .token x :: r' →
    step ⟨w, s⟩ = .next ⟨w, s'⟩ → step ⟨w, t⟩ = .next ⟨w, t'⟩ →
    s'.st = t'.st ∧ s'.raised = t'.raised ∧
    ∃ new : List (Event w), s'.events = s.events ++ new ∧ t'.events = t.events ++ new

/-! ### Sequences of pulses -/

/-- R80, R84, R130: from `WaitMarkFirst`, whatever an earlier error left behind, a Long and then a Medium start a byte. -/
def Obligations.AMarkerStartsAByteWhateverWasLeft : Prop :=
  ∀ (w : Widths) (s : StateAt w) (l m : Token w) (rest : List (Stimulus w)),
    s.st.fsmState = .waitMarkFirst → s.FaultFree → s.cfg.Legal →
    s.stimuli = .token l :: .token m :: rest → l.rateOk = true → m.rateOk = true →
    classify s.cfg l.us = .long → classify s.cfg m.us = .medium →
    Host.Core.run Sys2Proof.core 2 ⟨w, s⟩ = .next ⟨w, { s with
      st := { s.st with
        fsmState := .readBitsFirst, bitIndex := 0#3, dataByte := 0x00#8, byteStartTime := l.start }
      rst := false, token := m, stimuli := rest, raised := none
      events := s.events ++ [⟨.pulse .long, l.start, l.stop⟩, ⟨.pulse .medium, m.start, m.stop⟩,
        ⟨.marker .byteStart, l.start, m.stop⟩] }⟩

/-- R80, R85, R88: three Longs from `WaitMarkFirst` give exactly one Marker event, EOF, and `WaitMarkFirst` again. -/
def Obligations.ThreeLongsGiveOneEndMarker : Prop :=
  ∀ (w : Widths) (s : StateAt w) (a b c : Token w) (rest : List (Stimulus w)),
    s.st.fsmState = .waitMarkFirst → s.FaultFree → s.cfg.Legal →
    s.stimuli = .token a :: .token b :: .token c :: rest →
    a.rateOk = true → b.rateOk = true → c.rateOk = true →
    classify s.cfg a.us = .long → classify s.cfg b.us = .long → classify s.cfg c.us = .long →
    Host.Core.run Sys2Proof.core 3 ⟨w, s⟩ = .next ⟨w, { s with
      st := { s.st with byteStartTime := a.start }
      rst := false, token := c, stimuli := rest, raised := none
      events := s.events ++ [⟨.pulse .long, a.start, a.stop⟩, ⟨.pulse .long, b.start, b.stop⟩,
        ⟨.pulse .long, c.start, c.stop⟩, ⟨.marker .eof, a.start, c.stop⟩] }⟩

/-- R44, R93, R104 and the source's property of a whole frame: a marker and eight bit pairs that encode `v`, least
significant bit first, give one BYTE-START marker, the eight bits, Byte `v` and its Ascii event, and nothing else beside the
18 Pulse events; then `WaitMarkFirst`, `bit_index` 0, `data_byte` `v`. For every `v`, every duration of the right class and
all time stamps, from every such state. -/
def Obligations.AFrameDecodesToItsByte : Prop :=
  ∀ (w : Widths) (s : StateAt w) (l m : Token w) (pairs : Fin 8 → Token w × Token w) (v : Byte) (rest : List (Stimulus w)),
    s.st.fsmState = .waitMarkFirst → s.FaultFree → s.cfg.Legal → l.rateOk = true → m.rateOk = true →
    classify s.cfg l.us = .long → classify s.cfg m.us = .medium →
    (∀ k : Fin 8, IsBitPair s.cfg (v.getLsbD k) (pairs k).1 (pairs k).2) →
    s.stimuli = .token l :: .token m ::
      ((List.ofFn pairs).flatMap (fun p => [.token p.1, .token p.2]) ++ rest) →
    ∃ (t : StateAt w) (new : List (Event w)), Host.Core.run Sys2Proof.core 18 ⟨w, s⟩ = .next ⟨w, t⟩ ∧
      t.stimuli = rest ∧ t.cfg = s.cfg ∧ t.FaultFree ∧
      t.st.fsmState = .waitMarkFirst ∧ t.st.bitIndex = 0#3 ∧ t.st.dataByte = v ∧ t.st.firstOfPair = .none ∧
      t.events = s.events ++ new ∧
      new.filter (fun e => e.body.kind ≠ .pulse) =
        [⟨.marker .byteStart, l.start, m.stop⟩] ++
        List.ofFn (fun k : Fin 8 => ⟨.bit (v.getLsbD k), (pairs k).1.start, (pairs k).2.stop⟩) ++
        [⟨.byte v, l.start, (pairs 7).2.stop⟩, ⟨.ascii (asciiOf v), l.start, (pairs 7).2.stop⟩] ∧
      (new.filter (fun e => e.body.kind = .pulse)).length = 18

/-! ### The port-level realisation (70_reset_and_hazards.md R151) -/

/-- R151, R146, R49: a cycle keeps the output stream of the block and adds to it at its end; the sink takes the event next in
the stream when `ev_ready` is 1, and none is lost, repeated or reordered. It answers a next state unless it accepts a token
after the session's first under another configuration (R51). That a reset leaves the events still offered alone, and that
the first accepted token fixes the session's configuration (`started`; the model's deduction), are log entry 10. -/
def Obligations.PortsDeliverEveryEventInOrder : Prop :=
  ∀ (w : Widths) (b : StateAt w) (d : Nat) (started : Bool) (i : PortIn w), d ≤ b.events.length →
    i.rst = true ∨ started = false ∨ i.cfg = b.cfg →
    ∃ (c : StateAt w) (d' : Nat) (started' : Bool),
      PortState.cycle ⟨⟨w, b⟩, d, started⟩ i = .next ⟨⟨w, c⟩, d', started'⟩ ∧
      (∃ new, c.events = b.events ++ new) ∧ d' ≤ c.events.length ∧
      c.events.take d' = b.events.take d ++ (if i.evReady then (b.events.drop d).head?.toList else [])

/-- R151, R105, R39: a cycle that accepts nothing leaves the block alone, one that accepts a stimulus is one step of the block
on it under the configuration inputs of that cycle. A token is accepted in a cycle with `in_valid` and `in_ready` both 1,
and `in_ready` is 1 exactly when no event waits and `rst` is 0 (the latter is log entry 10); with `rst` = 1 the block is
reset. The status outputs are `faulted` and the input `cfg_polarity`. That the first accepted token fixes the session's
configuration (`started`) is the model's deduction (log entry 10). -/
def Obligations.APortCycleIsAtMostOneStep : Prop :=
  ∀ (w : Widths) (b : StateAt w) (d : Nat) (started : Bool) (i : PortIn w),
    let p : PortState := ⟨⟨w, b⟩, d, started⟩
    let d' := if i.evReady ∧ b.events.drop d ≠ [] then d + 1 else d
    ((p.out i).inReady = true ↔ b.events.drop d = [] ∧ i.rst = false) ∧
    ((p.out i).faultNoRate = true ↔ b.st.faulted = true) ∧
    (p.out i).edgeSel = (match i.cfg.polarity with | .read => 0#1 | .write => 1#1) ∧
    (i.rst = true → ∃ c : StateAt w,
      step ⟨w, { b with stimuli := .reset i.cfg :: b.stimuli }⟩ = .next ⟨w, c⟩ ∧
      p.cycle i = .next ⟨⟨w, c⟩, d', false⟩) ∧
    (i.inValid = true → (p.out i).inReady = true → started = false ∨ i.cfg = b.cfg → ∃ c : StateAt w,
      step ⟨w, { b with cfg := i.cfg, stimuli := .token i.token :: b.stimuli }⟩ = .next ⟨w, c⟩ ∧
      p.cycle i = .next ⟨⟨w, c⟩, d', true⟩) ∧
    (i.rst = false → (i.inValid && (p.out i).inReady) = false → p.cycle i = .next ⟨⟨w, b⟩, d', started⟩)

/-- R51, U2, R144: a cycle is refused exactly when it accepts a token after the first of its session while the configuration
inputs differ from those of that session's first token. That the first token accepted after a reset fixes the session's
configuration (`started`) is the model's deduction (log entry 10, DEDUCED from R28, R31, R51, R143). -/
def Obligations.AMidSessionChangeIsRefused : Prop :=
  ∀ (w : Widths) (b : StateAt w) (d : Nat) (started : Bool) (i : PortIn w) (r : Refusal),
    PortState.cycle ⟨⟨w, b⟩, d, started⟩ i = .refused r ↔
      r = .configurationChanged ∧ i.rst = false ∧ i.inValid = true ∧ b.events.drop d = [] ∧
      started = true ∧ i.cfg ≠ b.cfg

/-- R51, R143 (1), (2): a host that applies reset and then presents a configuration decodes under that one, whatever the
inputs held while `rst` was 1: the two cycles are the block's two steps on a reset of a session under it and its first
token (log entry 6). That the configuration is the one on the inputs at the first accepted token is the model's deduction
(log entry 10). -/
def Obligations.AConfigurationPresentedAfterResetIsUsed : Prop :=
  ∀ (w : Widths) (b : StateAt w) (d : Nat) (started : Bool) (i j : PortIn w), b.events.drop d = [] → i.rst = true →
    j.rst = false → j.inValid = true →
    ∃ (c c' : StateAt w) (d₁ d₂ : Nat),
      PortState.cycle ⟨⟨w, b⟩, d, started⟩ i = .next ⟨⟨w, c⟩, d₁, false⟩ ∧
      PortState.cycle ⟨⟨w, c⟩, d₁, false⟩ j = .next ⟨⟨w, c'⟩, d₂, true⟩ ∧ c'.cfg = j.cfg ∧
      Host.Core.run Sys2Proof.core 2 ⟨w, { b with stimuli := .reset j.cfg :: .token j.token :: b.stimuli }⟩ =
        .next ⟨w, c'⟩
end

