-- ==== Sys2Proof/Laws/Classifier.lean ====
section
/-! SUPPORT. The classifier's bit vectors as natural numbers (40_classifier.md R78), for every width. -/

namespace Sys2Proof.Machine

variable {w : Nat} (c : Thresholds w) (us : BitVec w)

theorem toNat_widened_add (a b : BitVec w) : (a.setWidth (w + 1) + b.setWidth (w + 1)).toNat = a.toNat + b.toNat := by
  have ha := a.isLt
  have hb := b.isLt
  have hp : 2 ^ (w + 1) = 2 * 2 ^ w := by rw [Nat.pow_succ]; omega
  rw [BitVec.toNat_add, BitVec.toNat_setWidth, BitVec.toNat_setWidth, Nat.mod_eq_of_lt (a := a.toNat) (by omega),
    Nat.mod_eq_of_lt (a := b.toNat) (by omega), Nat.mod_eq_of_lt (by omega)]

@[simp] theorem smSum_toNat : (smSum c).toNat = c.shortUs.toNat + c.mediumUs.toNat := toNat_widened_add _ _

@[simp] theorem mlSum_toNat : (mlSum c).toNat = c.mediumUs.toNat + c.longUs.toNat := toNat_widened_add _ _

@[simp] theorem us2_toNat : (us2 us).toNat = 2 * us.toNat := by
  have hu := us.isLt
  have hp : 2 ^ (w + 1) = 2 * 2 ^ w := by rw [Nat.pow_succ]; omega
  rw [us2, BitVec.toNat_shiftLeft, BitVec.toNat_setWidth, Nat.mod_eq_of_lt (a := us.toNat) (by omega), Nat.shiftLeft_eq,
    Nat.mod_eq_of_lt (by omega)]
  omega

@[simp] theorem cLo_iff : cLo c us = true ↔ us.toNat < c.minValidUs.toNat := by simp [cLo, BitVec.lt_def]

@[simp] theorem cHi_iff : cHi c us = true ↔ c.maxValidUs.toNat < us.toNat := by simp [cHi, BitVec.lt_def]

@[simp] theorem cSm_iff : cSm c us = true ↔ 2 * us.toNat < c.shortUs.toNat + c.mediumUs.toNat := by
  simp [cSm, BitVec.lt_def]

@[simp] theorem cMl_iff : cMl c us = true ↔ 2 * us.toNat < c.mediumUs.toNat + c.longUs.toNat := by
  simp [cMl, BitVec.lt_def]

@[simp] theorem geMin_iff : geMin c us = true ↔ c.minValidUs.toNat ≤ us.toNat := by
  simp [geMin, cLo, BitVec.lt_def]

end Sys2Proof.Machine
end

