-- ==== Sys2Proof/Laws/State.lean ====
section
/-! SUPPORT. What each single-field operation does to each field of the state, one lemma per field per operation. -/

namespace Sys2Proof.Machine

variable {w : Widths} (s : StateAt w)

/-! ### A meaning's outcome -/

@[simp] theorem State.runs_mk (f : StateAt w → StateAt w) : (State.mk w s).runs f = .next ⟨w, f s⟩ := rfl

/-- At one width, two next states are the same outcome exactly when they are the same state. -/
theorem next_mk_inj {a b : StateAt w} :
    (Host.Outcome.next (State.mk w a) : Outcome State) = .next ⟨w, b⟩ ↔ a = b := by simp

/-! ### goto -/

@[simp] theorem StateAt.goto_st (f : FsmState) : (s.goto f).st = { s.st with fsmState := f } := rfl
@[simp] theorem StateAt.goto_cfg (f : FsmState) : (s.goto f).cfg = s.cfg := rfl
@[simp] theorem StateAt.goto_rst (f : FsmState) : (s.goto f).rst = s.rst := rfl
@[simp] theorem StateAt.goto_token (f : FsmState) : (s.goto f).token = s.token := rfl
@[simp] theorem StateAt.goto_stimuli (f : FsmState) : (s.goto f).stimuli = s.stimuli := rfl
@[simp] theorem StateAt.goto_events (f : FsmState) : (s.goto f).events = s.events := rfl
@[simp] theorem StateAt.goto_raised (f : FsmState) : (s.goto f).raised = s.raised := rfl
@[simp] theorem StateAt.goto_freeCount (f : FsmState) : (s.goto f).freeCount = s.freeCount := rfl

/-! ### setBitIndex -/

@[simp] theorem StateAt.setBitIndex_st (i : BitVec 3) : (s.setBitIndex i).st = { s.st with bitIndex := i } := rfl
@[simp] theorem StateAt.setBitIndex_cfg (i : BitVec 3) : (s.setBitIndex i).cfg = s.cfg := rfl
@[simp] theorem StateAt.setBitIndex_rst (i : BitVec 3) : (s.setBitIndex i).rst = s.rst := rfl
@[simp] theorem StateAt.setBitIndex_token (i : BitVec 3) : (s.setBitIndex i).token = s.token := rfl
@[simp] theorem StateAt.setBitIndex_stimuli (i : BitVec 3) : (s.setBitIndex i).stimuli = s.stimuli := rfl
@[simp] theorem StateAt.setBitIndex_events (i : BitVec 3) : (s.setBitIndex i).events = s.events := rfl
@[simp] theorem StateAt.setBitIndex_raised (i : BitVec 3) : (s.setBitIndex i).raised = s.raised := rfl
@[simp] theorem StateAt.setBitIndex_freeCount (i : BitVec 3) : (s.setBitIndex i).freeCount = s.freeCount := rfl

/-! ### setDataByte -/

@[simp] theorem StateAt.setDataByte_st (v : Byte) : (s.setDataByte v).st = { s.st with dataByte := v } := rfl
@[simp] theorem StateAt.setDataByte_cfg (v : Byte) : (s.setDataByte v).cfg = s.cfg := rfl
@[simp] theorem StateAt.setDataByte_rst (v : Byte) : (s.setDataByte v).rst = s.rst := rfl
@[simp] theorem StateAt.setDataByte_token (v : Byte) : (s.setDataByte v).token = s.token := rfl
@[simp] theorem StateAt.setDataByte_stimuli (v : Byte) : (s.setDataByte v).stimuli = s.stimuli := rfl
@[simp] theorem StateAt.setDataByte_events (v : Byte) : (s.setDataByte v).events = s.events := rfl
@[simp] theorem StateAt.setDataByte_raised (v : Byte) : (s.setDataByte v).raised = s.raised := rfl
@[simp] theorem StateAt.setDataByte_freeCount (v : Byte) : (s.setDataByte v).freeCount = s.freeCount := rfl

/-! ### setFirstOfPair -/

@[simp] theorem StateAt.setFirstOfPair_st (p : FirstOfPair) : (s.setFirstOfPair p).st = { s.st with firstOfPair := p } := rfl
@[simp] theorem StateAt.setFirstOfPair_cfg (p : FirstOfPair) : (s.setFirstOfPair p).cfg = s.cfg := rfl
@[simp] theorem StateAt.setFirstOfPair_rst (p : FirstOfPair) : (s.setFirstOfPair p).rst = s.rst := rfl
@[simp] theorem StateAt.setFirstOfPair_token (p : FirstOfPair) : (s.setFirstOfPair p).token = s.token := rfl
@[simp] theorem StateAt.setFirstOfPair_stimuli (p : FirstOfPair) : (s.setFirstOfPair p).stimuli = s.stimuli := rfl
@[simp] theorem StateAt.setFirstOfPair_events (p : FirstOfPair) : (s.setFirstOfPair p).events = s.events := rfl
@[simp] theorem StateAt.setFirstOfPair_raised (p : FirstOfPair) : (s.setFirstOfPair p).raised = s.raised := rfl
@[simp] theorem StateAt.setFirstOfPair_freeCount (p : FirstOfPair) : (s.setFirstOfPair p).freeCount = s.freeCount := rfl

/-! ### recordByteStart -/

@[simp] theorem StateAt.recordByteStart_st : s.recordByteStart.st = { s.st with byteStartTime := s.token.start } := rfl
@[simp] theorem StateAt.recordByteStart_cfg : s.recordByteStart.cfg = s.cfg := rfl
@[simp] theorem StateAt.recordByteStart_rst : s.recordByteStart.rst = s.rst := rfl
@[simp] theorem StateAt.recordByteStart_token : s.recordByteStart.token = s.token := rfl
@[simp] theorem StateAt.recordByteStart_stimuli : s.recordByteStart.stimuli = s.stimuli := rfl
@[simp] theorem StateAt.recordByteStart_events : s.recordByteStart.events = s.events := rfl
@[simp] theorem StateAt.recordByteStart_raised : s.recordByteStart.raised = s.raised := rfl
@[simp] theorem StateAt.recordByteStart_freeCount : s.recordByteStart.freeCount = s.freeCount := rfl

/-! ### recordBitStart -/

@[simp] theorem StateAt.recordBitStart_st : s.recordBitStart.st = { s.st with bitStartTime := s.token.start } := rfl
@[simp] theorem StateAt.recordBitStart_cfg : s.recordBitStart.cfg = s.cfg := rfl
@[simp] theorem StateAt.recordBitStart_rst : s.recordBitStart.rst = s.rst := rfl
@[simp] theorem StateAt.recordBitStart_token : s.recordBitStart.token = s.token := rfl
@[simp] theorem StateAt.recordBitStart_stimuli : s.recordBitStart.stimuli = s.stimuli := rfl
@[simp] theorem StateAt.recordBitStart_events : s.recordBitStart.events = s.events := rfl
@[simp] theorem StateAt.recordBitStart_raised : s.recordBitStart.raised = s.raised := rfl
@[simp] theorem StateAt.recordBitStart_freeCount : s.recordBitStart.freeCount = s.freeCount := rfl

/-! ### setFaulted -/

@[simp] theorem StateAt.setFaulted_st (b : Bool) : (s.setFaulted b).st = { s.st with faulted := b } := rfl
@[simp] theorem StateAt.setFaulted_cfg (b : Bool) : (s.setFaulted b).cfg = s.cfg := rfl
@[simp] theorem StateAt.setFaulted_rst (b : Bool) : (s.setFaulted b).rst = s.rst := rfl
@[simp] theorem StateAt.setFaulted_token (b : Bool) : (s.setFaulted b).token = s.token := rfl
@[simp] theorem StateAt.setFaulted_stimuli (b : Bool) : (s.setFaulted b).stimuli = s.stimuli := rfl
@[simp] theorem StateAt.setFaulted_events (b : Bool) : (s.setFaulted b).events = s.events := rfl
@[simp] theorem StateAt.setFaulted_raised (b : Bool) : (s.setFaulted b).raised = s.raised := rfl
@[simp] theorem StateAt.setFaulted_freeCount (b : Bool) : (s.setFaulted b).freeCount = s.freeCount := rfl

/-! ### emit -/

@[simp] theorem StateAt.emit_st (k : EventBody) (a b : TimeStamp w) : (s.emit k a b).st = s.st := rfl
@[simp] theorem StateAt.emit_cfg (k : EventBody) (a b : TimeStamp w) : (s.emit k a b).cfg = s.cfg := rfl
@[simp] theorem StateAt.emit_rst (k : EventBody) (a b : TimeStamp w) : (s.emit k a b).rst = s.rst := rfl
@[simp] theorem StateAt.emit_token (k : EventBody) (a b : TimeStamp w) : (s.emit k a b).token = s.token := rfl
@[simp] theorem StateAt.emit_stimuli (k : EventBody) (a b : TimeStamp w) : (s.emit k a b).stimuli = s.stimuli := rfl
@[simp] theorem StateAt.emit_events (k : EventBody) (a b : TimeStamp w) :
    (s.emit k a b).events = s.events ++ [⟨k, a, b⟩] := rfl
@[simp] theorem StateAt.emit_raised (k : EventBody) (a b : TimeStamp w) : (s.emit k a b).raised = s.raised := rfl
@[simp] theorem StateAt.emit_freeCount (k : EventBody) (a b : TimeStamp w) : (s.emit k a b).freeCount = s.freeCount := rfl

/-! ### raiseMissingSampleRate -/

@[simp] theorem StateAt.raiseMissingSampleRate_st : s.raiseMissingSampleRate.st = s.st := rfl
@[simp] theorem StateAt.raiseMissingSampleRate_cfg : s.raiseMissingSampleRate.cfg = s.cfg := rfl
@[simp] theorem StateAt.raiseMissingSampleRate_rst : s.raiseMissingSampleRate.rst = s.rst := rfl
@[simp] theorem StateAt.raiseMissingSampleRate_token : s.raiseMissingSampleRate.token = s.token := rfl
@[simp] theorem StateAt.raiseMissingSampleRate_stimuli : s.raiseMissingSampleRate.stimuli = s.stimuli := rfl
@[simp] theorem StateAt.raiseMissingSampleRate_events : s.raiseMissingSampleRate.events = s.events := rfl
@[simp] theorem StateAt.raiseMissingSampleRate_raised : s.raiseMissingSampleRate.raised = some .missingSampleRate := rfl
@[simp] theorem StateAt.raiseMissingSampleRate_freeCount : s.raiseMissingSampleRate.freeCount = s.freeCount := rfl

end Sys2Proof.Machine
end

