-- ==== Sys2Proof/Laws/Ops.lean ====
section
/-! SUPPORT. One lemma per shared operation that says, as a record update, everything the operation does. -/

namespace Sys2Proof.Machine

variable {w : Widths} (s : StateAt w)

/-- One Event over the current pulse. -/
theorem StateAt.emitHere_eq (k : EventBody) :
    s.emitHere k = { s with events := s.events ++ [⟨k, s.token.start, s.token.stop⟩] } := rfl

theorem StateAt.acceptPulse_eq (p : PulseType) :
    s.acceptPulse p = { s with events := s.events ++ [⟨.pulse p, s.token.start, s.token.stop⟩] } := rfl

theorem StateAt.emitSinceMarker_eq (k : EventBody) :
    s.emitSinceMarker k = { s with events := s.events ++ [⟨k, s.st.byteStartTime, s.token.stop⟩] } := rfl

theorem StateAt.emitSincePair_eq (k : EventBody) :
    s.emitSincePair k = { s with events := s.events ++ [⟨k, s.st.bitStartTime, s.token.stop⟩] } := rfl

/-- An error writes the state register and the output, nothing else. -/
theorem StateAt.takeError_eq (l : ErrorLabel) :
    s.takeError l =
      { s with
        st := { s.st with fsmState := .waitMarkFirst }
        events := s.events ++ [⟨.error l, s.token.start, s.token.stop⟩] } := rfl

/-- The byte with the decoded bit ORed in. -/
theorem StateAt.accum_of_last (b : Bool) (h : s.st.bitIndex = 7#3) :
    s.accum b =
      { s with
        st := { s.st with
          fsmState := .waitMarkFirst
          bitIndex := 0#3
          dataByte := s.st.dataByte ||| bitAt b s.st.bitIndex
          firstOfPair := .none }
        events := s.events ++ [⟨.bit b, s.st.bitStartTime, s.token.stop⟩,
          ⟨.byte (s.st.dataByte ||| bitAt b s.st.bitIndex), s.st.byteStartTime, s.token.stop⟩,
          ⟨.ascii (asciiOf (s.st.dataByte ||| bitAt b s.st.bitIndex)), s.st.byteStartTime, s.token.stop⟩] } := by
  simp [StateAt.accum, StateAt.emitSincePair, StateAt.emit, StateAt.setDataByte, StateAt.setFirstOfPair, StateAt.completeByte,
    StateAt.emitSinceMarker, StateAt.setBitIndex, StateAt.goto, h]

theorem StateAt.accum_of_not_last (b : Bool) (h : s.st.bitIndex ≠ 7#3) :
    s.accum b =
      { s with
        st := { s.st with
          fsmState := .readBitsFirst
          bitIndex := s.st.bitIndex + 1#3
          dataByte := s.st.dataByte ||| bitAt b s.st.bitIndex
          firstOfPair := .none }
        events := s.events ++ [⟨.bit b, s.st.bitStartTime, s.token.stop⟩] } := by
  simp [StateAt.accum, StateAt.emitSincePair, StateAt.emit, StateAt.setDataByte, StateAt.setFirstOfPair, StateAt.awaitNextPair,
    StateAt.setBitIndex, StateAt.goto, h]

/-- ACCUM never touches what is not its own, whichever bit it completes. -/
theorem StateAt.accum_frame (b : Bool) :
    (s.accum b).st.byteStartTime = s.st.byteStartTime ∧ (s.accum b).st.bitStartTime = s.st.bitStartTime ∧
    (s.accum b).st.faulted = s.st.faulted ∧ (s.accum b).cfg = s.cfg ∧ (s.accum b).rst = s.rst ∧
    (s.accum b).token = s.token ∧ (s.accum b).stimuli = s.stimuli ∧ (s.accum b).raised = s.raised ∧
    (s.accum b).freeCount = s.freeCount := by
  by_cases h : s.st.bitIndex = 7#3
  · simp [s.accum_of_last b h]
  · simp [s.accum_of_not_last b h]

/-- Sampling a stimulus leaves the block and the output stream alone. -/
theorem StateAt.latch_frame (x : Stimulus w) (rest : List (Stimulus w)) :
    (s.latch x rest).st = s.st ∧ (s.latch x rest).events = s.events ∧ (s.latch x rest).stimuli = rest ∧
    (s.latch x rest).raised = none ∧ (s.latch x rest).freeCount = s.freeCount := by
  cases x <;> simp [StateAt.latch]

end Sys2Proof.Machine
end

