-- ==== Sys2Proof/Laws/Fetch.lean ====
section
/-! SUPPORT. Which operation the sampled inputs and the state select (30_encoding.md R62 to R64). -/

namespace Sys2Proof.Machine

variable {w : Widths}

theorem decodeDw_of_codes (f : FsmState) (p : FirstOfPair) (g : Bool) (t : PulseType) :
    decodeDw (dwWord f.code p.code g t.code) = .ok (rowOf f p g t) := by
  cases f <;> cases p <;> cases g <;> cases t <;> decide

theorem decodeCtl_of_bits (r f k : Bool) :
    decodeCtl (cwWord r f k) =
      (if r then .ok (.reset f k) else if f then .ok (.fhold k) else if k then .error .normalDispatch else .ok .norate) := by
  cases r <;> cases f <;> cases k <;> decide

/-- The priority of R128, on the sampled inputs. -/
theorem StateAt.fetch_eq (s : StateAt w) :
    s.fetch =
      .ok (if s.rst then .reset s.st.faulted s.token.rateOk
        else if s.st.faulted then .fhold s.token.rateOk
        else if s.token.rateOk then
          rowOf s.st.fsmState s.st.firstOfPair (geMin s.cfg s.token.us) (classify s.cfg s.token.us)
        else .norate) := by
  simp only [StateAt.fetch, decode, StateAt.controlWord, decodeCtl_of_bits, StateAt.dispatchWord, decodeDw_of_codes]
  cases s.rst <;> cases s.st.faulted <;> cases s.token.rateOk <;> rfl

theorem runLatched_eq (s : StateAt w) :
    runLatched ⟨w, s⟩ =
      exec (if s.rst then .reset s.st.faulted s.token.rateOk
        else if s.st.faulted then .fhold s.token.rateOk
        else if s.token.rateOk then
          rowOf s.st.fsmState s.st.firstOfPair (geMin s.cfg s.token.us) (classify s.cfg s.token.us)
        else .norate) ⟨w, s⟩ := by
  simp only [runLatched, StateAt.fetch_eq]

theorem step_of_nothing_presented {s : StateAt w} (h : s.stimuli = []) : step ⟨w, s⟩ = .next ⟨w, s⟩ := by
  simp [step, h]

theorem step_of_presented {s : StateAt w} {x : Stimulus w} {rest : List (Stimulus w)} (h : s.stimuli = x :: rest) :
    step ⟨w, s⟩ = runLatched ⟨w, s.latch x rest⟩ := by simp [step, h]

/-- All a step can do: wait, or run what the next stimulus selects. -/
theorem step_cases {s t : StateAt w} (h : step ⟨w, s⟩ = .next ⟨w, t⟩) :
    (s.stimuli = [] ∧ t = s) ∨
      ∃ x rest, s.stimuli = x :: rest ∧ runLatched ⟨w, s.latch x rest⟩ = .next ⟨w, t⟩ := by
  cases hs : s.stimuli with
  | nil => rw [step_of_nothing_presented hs, next_mk_inj] at h; exact .inl ⟨rfl, h.symm⟩
  | cons x rest => exact .inr ⟨x, rest, rfl, step_of_presented hs ▸ h⟩

end Sys2Proof.Machine
end

