-- ==== Sys2Proof/Laws/PerInstr.lean ====
section
/-! SUPPORT. The family RoundTrip: the decoder reads back the word the encoder writes, one lemma per constructor. -/

namespace Sys2Proof.Laws.RoundTrip

/-- Decoding the word of an instruction gives the instruction, with every ignored bit at every value. -/
def Statement (i : Instr) : Prop := decode (encode i) = .ok i

theorem wm1S (f : BitVec 2) (g : Bool) : Statement (.wm1S f g) := by
  revert f g; unfold Statement; decide

theorem wm1M (f : BitVec 2) (g : Bool) : Statement (.wm1M f g) := by
  revert f g; unfold Statement; decide

theorem wm1L (f : BitVec 2) (g : Bool) : Statement (.wm1L f g) := by
  revert f g; unfold Statement; decide

theorem wm2S (f : BitVec 2) (g : Bool) : Statement (.wm2S f g) := by
  revert f g; unfold Statement; decide

theorem wm2M (f : BitVec 2) (g : Bool) : Statement (.wm2M f g) := by
  revert f g; unfold Statement; decide

theorem wm2L (f : BitVec 2) (g : Bool) : Statement (.wm2L f g) := by
  revert f g; unfold Statement; decide

theorem wm3S (f : BitVec 2) (g : Bool) : Statement (.wm3S f g) := by
  revert f g; unfold Statement; decide

theorem wm3M (f : BitVec 2) (g : Bool) : Statement (.wm3M f g) := by
  revert f g; unfold Statement; decide

theorem wm3L (f : BitVec 2) (g : Bool) : Statement (.wm3L f g) := by
  revert f g; unfold Statement; decide

theorem rb1S (f : BitVec 2) (g : Bool) : Statement (.rb1S f g) := by
  revert f g; unfold Statement; decide

theorem rb1M (f : BitVec 2) (g : Bool) : Statement (.rb1M f g) := by
  revert f g; unfold Statement; decide

theorem rb1L (f : BitVec 2) (g : Bool) : Statement (.rb1L f g) := by
  revert f g; unfold Statement; decide

theorem rb2SS (g : Bool) : Statement (.rb2SS g) := by
  revert g; unfold Statement; decide

theorem rb2SM (g : Bool) : Statement (.rb2SM g) := by
  revert g; unfold Statement; decide

theorem rb2SL (g : Bool) : Statement (.rb2SL g) := by
  revert g; unfold Statement; decide

theorem rb2MS (g : Bool) : Statement (.rb2MS g) := by
  revert g; unfold Statement; decide

theorem rb2MM (g : Bool) : Statement (.rb2MM g) := by
  revert g; unfold Statement; decide

theorem rb2ML (g : Bool) : Statement (.rb2ML g) := by
  revert g; unfold Statement; decide

theorem rb2XS (l g : Bool) : Statement (.rb2XS l g) := by
  revert l g; unfold Statement; decide

theorem rb2XM (l g : Bool) : Statement (.rb2XM l g) := by
  revert l g; unfold Statement; decide

theorem rb2XL (l g : Bool) : Statement (.rb2XL l g) := by
  revert l g; unfold Statement; decide

theorem glitchLo (st : BitVec 3) (f : BitVec 2) : Statement (.glitchLo st f) := by
  revert st f; unfold Statement; decide

theorem glitchHi (st : BitVec 3) (f : BitVec 2) : Statement (.glitchHi st f) := by
  revert st f; unfold Statement; decide

theorem reset (f k : Bool) : Statement (.reset f k) := by
  revert f k; unfold Statement; decide

theorem fhold (k : Bool) : Statement (.fhold k) := by
  revert k; unfold Statement; decide

theorem norate : Statement .norate := by unfold Statement; decide

end Sys2Proof.Laws.RoundTrip
end

