-- ==== Sys2Proof/Laws/Port.lean ====
section
/-! SUPPORT. What the port level does with the output stream and with the configuration inputs, on a state written out. -/

namespace Sys2Proof.Machine

variable {w : Widths} (b : StateAt w) (d : Nat) (started : Bool) (i : PortIn w)

/-- The sink takes one event when it is ready and one is offered. -/
theorem PortState.deliveredAfter_mk :
    PortState.deliveredAfter ⟨⟨w, b⟩, d, started⟩ i = if i.evReady ∧ b.events.drop d ≠ [] then d + 1 else d := by
  simp only [PortState.deliveredAfter, PortState.taken, PortState.pending]
  cases i.evReady <;> cases b.events.drop d <;> simp

theorem PortState.inReady_mk :
    PortState.inReady ⟨⟨w, b⟩, d, started⟩ i = true ↔ b.events.drop d = [] ∧ i.rst = false := by
  simp [PortState.inReady, PortState.pending]

theorem PortState.breaksSession_mk :
    PortState.breaksSession ⟨⟨w, b⟩, d, started⟩ i = true ↔ i.rst = false ∧ started = true ∧ i.cfg ≠ b.cfg := by
  simp [PortState.breaksSession, and_assoc]

theorem PortState.accepts_mk :
    PortState.accepts ⟨⟨w, b⟩, d, started⟩ i =
      if i.rst then some (.reset i.cfg)
      else if i.inValid && (b.events.drop d).isEmpty then some (.token i.token) else none := by
  cases h : i.rst <;> simp [PortState.accepts, PortState.inReady, PortState.pending, h]

end Sys2Proof.Machine
end

