-- ==== Sys2Proof/Tests/Slice0.lean ====
section
/-! SUPPORT. Tests whose expected results are the vectors of 95_test_vectors.md (V<n>, E<n>) or are written out from the
encodings of 30_encoding.md; then a witness for the hypotheses of every statement that has some. -/

namespace Sys2Proof.Tests

open Sys2Proof.Machine

/-! ### Helpers: a state about to step on one pulse, and what one step gives -/

/-- A token with a known sample rate, at the default widths. -/
def pulse (us start stop : Nat) : Token .default := ⟨true, BitVec.ofNat _ us, BitVec.ofNat _ start, BitVec.ofNat _ stop⟩

/-- The block after reset. -/
abbrev fresh : DecoderState .default := .reset _

/-- Fault-free block fields. -/
def fields (f : FsmState) (i : Nat) (v : Byte) (p : FirstOfPair) (byteStart bitStart : Nat) : DecoderState .default :=
  ⟨f, BitVec.ofNat _ i, v, p, BitVec.ofNat _ byteStart, BitVec.ofNat _ bitStart, false⟩

/-- The reset state with the block in `d` and `x` presented. -/
def facing (d : DecoderState .default) (x : Token .default) : StateAt .default :=
  { State.reset.val with st := d, stimuli := [.token x] }

/-- The block and the output stream, with their widths. -/
abbrev Seen := Option ((w : Widths) × DecoderState w × List (Event w))

def seen (d : DecoderState .default) (es : List (Event .default)) : Seen := some ⟨_, d, es⟩

/-- What is seen after one step. -/
def after (s : StateAt .default) : Seen :=
  match step ⟨_, s⟩ with
  | .next t => some ⟨_, t.val.st, t.val.events⟩
  | _ => none

def ev (k : EventBody) (a b : Nat) : Event .default := ⟨k, BitVec.ofNat _ a, BitVec.ofNat _ b⟩

/-! ### WellFormed: one ill-formed term for each check -/

theorem test_wellFormed_refuses_stored_pulse_outside_pair : (Instr.wm1S 2#2 true).wellFormed = false := by decide
theorem test_wellFormed_refuses_valid_pulse_below_window : (Instr.wm2M 0#2 false).wellFormed = false := by decide
theorem test_wellFormed_refuses_pair_row_below_window : (Instr.rb2SS false).wellFormed = false := by decide
theorem test_wellFormed_refuses_unreachable_row : (Instr.rb2XS false true).wellFormed = false := by decide
theorem test_wellFormed_refuses_reserved_state : (Instr.glitchLo 5#3 0#2).wellFormed = false := by decide
theorem test_wellFormed_refuses_unused_fop_code : (Instr.glitchHi 4#3 1#2).wellFormed = false := by decide
theorem test_wellFormed_refuses_glitch_word_with_pulse_outside_pair :
    (Instr.glitchHi 3#3 2#2).wellFormed = false := by decide

/-! ### Decoding: every row's word written out from R64, with R62's fields spelled as bits -/

theorem test_decode_wm1 : decode (.dw 0b00000100#8) = .ok (.wm1S 0#2 true) ∧
    decode (.dw 0b00000101#8) = .ok (.wm1M 0#2 true) ∧ decode (.dw 0b00000110#8) = .ok (.wm1L 0#2 true) := by decide
theorem test_decode_wm2 : decode (.dw 0b00100100#8) = .ok (.wm2S 0#2 true) ∧
    decode (.dw 0b00100101#8) = .ok (.wm2M 0#2 true) ∧ decode (.dw 0b00100110#8) = .ok (.wm2L 0#2 true) := by decide
theorem test_decode_wm3 : decode (.dw 0b01000100#8) = .ok (.wm3S 0#2 true) ∧
    decode (.dw 0b01000101#8) = .ok (.wm3M 0#2 true) ∧ decode (.dw 0b01000110#8) = .ok (.wm3L 0#2 true) := by decide
theorem test_decode_rb1 : decode (.dw 0b01100100#8) = .ok (.rb1S 0#2 true) ∧
    decode (.dw 0b01110001#8) = .ok (.rb1M 2#2 false) ∧ decode (.dw 0b01101110#8) = .ok (.rb1L 1#2 true) := by decide
theorem test_decode_rb2_after_short : decode (.dw 0b10010100#8) = .ok (.rb2SS true) ∧
    decode (.dw 0b10010101#8) = .ok (.rb2SM true) ∧ decode (.dw 0b10010110#8) = .ok (.rb2SL true) := by decide
theorem test_decode_rb2_after_medium : decode (.dw 0b10011100#8) = .ok (.rb2MS true) ∧
    decode (.dw 0b10011101#8) = .ok (.rb2MM true) ∧ decode (.dw 0b10011110#8) = .ok (.rb2ML true) := by decide
theorem test_decode_rb2_without_first : decode (.dw 0b10000100#8) = .ok (.rb2XS false true) ∧
    decode (.dw 0b10001001#8) = .ok (.rb2XM true false) ∧ decode (.dw 0b10000110#8) = .ok (.rb2XL false true) := by decide
theorem test_decode_glitches : decode (.dw 0b01100011#8) = .ok (.glitchLo 3#3 0#2) ∧
    decode (.dw 0b10011111#8) = .ok (.glitchHi 4#3 3#2) ∧ decode (.dw 0b11100011#8) = .ok (.glitchLo 7#3 0#2) := by decide
theorem test_decode_control : decode (.ctl 0b111#3) = .ok (.reset true true) ∧
    decode (.ctl 0b011#3) = .ok (.fhold true) ∧ decode (.ctl 0b000#3) = .ok .norate := by decide
theorem test_decode_refuses_reserved_state : decode (.dw 0b10100101#8) = .error (.reservedState 5#3) := by decide
theorem test_decode_normal_dispatch : decode (.ctl 0b001#3) = .error .normalDispatch := by decide
theorem test_decode_table_word : decodeTableWord 8 0x21 = some (.wm2M 0#2 false) ∧
    decodeTableWord 3 4 = some (.reset false false) ∧ decodeTableWord 8 0xA5 = none := by decide

/-! ### The classifier (V3, V5, V6, V12; V50 to V53, V55, V56) -/

theorem test_classify_edges : classify ThresholdConfig.default 150#16 = .short ∧
    classify ThresholdConfig.default 464#16 = .short ∧ classify ThresholdConfig.default 465#16 = .medium ∧
    classify ThresholdConfig.default 1201#16 = .invalid := by decide
theorem test_classify_odd_sum :
    classify { ThresholdConfig.default with mediumUs := 541#16 } 465#16 = .short ∧
    classify { ThresholdConfig.default with mediumUs := 541#16 } 466#16 = .medium ∧
    classify { ThresholdConfig.default with mediumUs := 541#16 } 620#16 = .medium ∧
    classify { ThresholdConfig.default with mediumUs := 541#16 } 621#16 = .long := by decide
theorem test_classify_out_of_order :
    classify { ThresholdConfig.default with shortUs := 700#16, longUs := 390#16 } 619#16 = .short ∧
    classify { ThresholdConfig.default with shortUs := 700#16, longUs := 390#16 } 620#16 = .long := by decide
theorem test_classify_zero_minimum :
    classify { ThresholdConfig.default with minValidUs := 0#16 } 0#16 = .short := by decide

/-! ### One step of each operation -/

/-- V15. -/
theorem test_wm1S : after (facing fresh (pulse 390 0 390)) = seen fresh [ev (.pulse .short) 0 390] := by decide
/-- V30a: the Medium after the glitch is ignored. -/
theorem test_wm1M : after (facing fresh (pulse 540 800 1340)) = seen fresh [ev (.pulse .medium) 800 1340] := by decide
/-- P3, pulse 5. -/
theorem test_wm1L : after (facing (fields .waitMarkFirst 0 0 .none 640 0) (pulse 700 1730 2430)) =
    seen (fields .waitMarkSecond 0 0 .none 1730 0) [ev (.pulse .long) 1730 2430] := by decide
/-- V18. -/
theorem test_wm2S : after (facing (fields .waitMarkSecond 0 0 .none 0 0) (pulse 390 700 1090)) =
    seen (fields .waitMarkFirst 0 0 .none 0 0) [ev (.pulse .short) 700 1090, ev (.error .badMarker) 700 1090] := by decide
/-- V29, pulse 7: the stale bit is cleared. -/
theorem test_wm2M : after (facing (fields .waitMarkSecond 1 1 .none 3470 1240) (pulse 540 4170 4710)) =
    seen (fields .readBitsFirst 0 0 .none 3470 1240)
      [ev (.pulse .medium) 4170 4710, ev (.marker .byteStart) 3470 4710] := by decide
/-- E4, pulse 2. -/
theorem test_wm2L : after (facing (fields .waitMarkSecond 0 0 .none 0 0) (pulse 700 700 1400)) =
    seen (fields .waitMarkThird 0 0 .none 0 0) [ev (.pulse .long) 700 1400] := by decide
/-- V62. -/
theorem test_wm3S : after (facing (fields .waitMarkThird 0 0 .none 0 0) (pulse 390 1400 1790)) =
    seen (fields .waitMarkFirst 0 0 .none 0 0) [ev (.pulse .short) 1400 1790, ev (.error .badMarker) 1400 1790] := by decide
/-- V61. -/
theorem test_wm3M : after (facing (fields .waitMarkThird 0 0 .none 0 0) (pulse 540 1400 1940)) =
    seen (fields .waitMarkFirst 0 0 .none 0 0) [ev (.pulse .medium) 1400 1940, ev (.error .badMarker) 1400 1940] := by decide
/-- P1, pulse 39: EOF keeps `data_byte`. -/
theorem test_wm3L : after (facing (fields .waitMarkThird 0 0x69 .none 17360 16430) (pulse 700 18760 19460)) =
    seen (fields .waitMarkFirst 0 0x69 .none 17360 16430)
      [ev (.pulse .long) 18760 19460, ev (.marker .eof) 17360 19460] := by decide
/-- E3, pulse 5. -/
theorem test_rb1S : after (facing (fields .readBitsFirst 1 1 .none 0 1240) (pulse 390 2170 2560)) =
    seen (fields .readBitsSecond 1 1 .short 0 2170) [ev (.pulse .short) 2170 2560] := by decide
/-- E3, pulse 15. -/
theorem test_rb1M : after (facing (fields .readBitsFirst 6 1 .none 0 5890) (pulse 540 6820 7360)) =
    seen (fields .readBitsSecond 6 1 .medium 0 6820) [ev (.pulse .medium) 6820 7360] := by decide
/-- V36: the partial byte stays. -/
theorem test_rb1L : after (facing (fields .readBitsFirst 2 2 .none 0 2170) (pulse 700 3100 3800)) =
    seen (fields .waitMarkFirst 2 2 .none 0 2170)
      [ev (.pulse .long) 3100 3800, ev (.error .badBitStart) 3100 3800] := by decide
/-- E3, pulse 18: the eighth bit. -/
theorem test_rb2SM : after (facing (fields .readBitsSecond 7 0x41 .short 0 7750) (pulse 540 8140 8680)) =
    seen (fields .waitMarkFirst 0 0x41 .none 0 7750) [ev (.pulse .medium) 8140 8680, ev (.bit false) 7750 8680,
      ev (.byte 0x41) 0 8680, ev (.ascii 0x41) 0 8680] := by decide
/-- E3, pulse 16. -/
theorem test_rb2MS : after (facing (fields .readBitsSecond 6 1 .medium 0 6820) (pulse 390 7360 7750)) =
    seen (fields .readBitsFirst 7 0x41 .none 0 6820) [ev (.pulse .short) 7360 7750, ev (.bit true) 6820 7750] := by decide
/-- V26b: bit 7, and a byte that is not printable. -/
theorem test_rb2MS_last : after (facing (fields .readBitsSecond 7 0 .medium 0 7750) (pulse 390 8290 8680)) =
    seen (fields .waitMarkFirst 0 0x80 .none 0 7750) [ev (.pulse .short) 8290 8680, ev (.bit true) 7750 8680,
      ev (.byte 0x80) 0 8680, ev (.ascii 0x2E) 0 8680] := by decide
/-- V31. -/
theorem test_rb2SS : after (facing (fields .readBitsSecond 0 0 .short 0 1240) (pulse 390 1630 2020)) =
    seen (fields .waitMarkFirst 0 0 .none 0 1240) [ev (.pulse .short) 1630 2020, ev (.error .badBitPair) 1630 2020] := by decide
/-- V32. -/
theorem test_rb2MM : after (facing (fields .readBitsSecond 0 0 .medium 0 1240) (pulse 540 1780 2320)) =
    seen (fields .waitMarkFirst 0 0 .none 0 1240) [ev (.pulse .medium) 1780 2320, ev (.error .badBitPair) 1780 2320] := by decide
/-- V40, pulse 6. -/
theorem test_rb2SL : after (facing (fields .readBitsSecond 1 0 .short 0 2748) (pulse 620 2898 3518)) =
    seen (fields .waitMarkFirst 1 0 .none 0 2748) [ev (.pulse .long) 2898 3518, ev (.error .badBitPair) 2898 3518] := by decide
/-- V34. -/
theorem test_rb2ML : after (facing (fields .readBitsSecond 0 0 .medium 0 1240) (pulse 700 1780 2480)) =
    seen (fields .waitMarkFirst 0 0 .none 0 1240) [ev (.pulse .long) 1780 2480, ev (.error .badBitPair) 1780 2480] := by decide
/-- R101 to R103: the unreachable state takes the row "anything else". -/
theorem test_rb2X : ∀ us ∈ [390, 540, 700],
    (after (facing (fields .readBitsSecond 3 5 .none 0 0) (pulse us 10 20))).map (fun r => ⟨r.1, r.2.1, r.2.2.drop 1⟩) =
      seen (fields .waitMarkFirst 3 5 .none 0 0) [ev (.error .badBitPair) 10 20] := by decide
/-- V28, pulse 5. -/
theorem test_glitchLo : after (facing (fields .readBitsFirst 1 0 .none 0 1240) (pulse 100 2170 2270)) =
    seen (fields .waitMarkFirst 1 0 .none 0 1240) [] := by decide
/-- V29, pulse 5. -/
theorem test_glitchHi : after (facing (fields .readBitsFirst 1 1 .none 0 1240) (pulse 1300 2170 3470)) =
    seen (fields .waitMarkFirst 1 1 .none 0 1240) [ev (.error .glitch) 2170 3470] := by decide
/-- V39b: everything but `faulted` is kept. -/
theorem test_norate :
    after (facing (fields .readBitsFirst 1 1 .none 0 1240) { pulse 700 0 700 with rateOk := false }) =
      seen { fields .readBitsFirst 1 1 .none 0 1240 with faulted := true } [] := by decide
/-- V38. -/
theorem test_fhold :
    after (facing { fresh with faulted := true } (pulse 700 0 700)) =
      seen { fresh with faulted := true } [] := by decide
/-- V39a, V39: the fields the spec gives a value. -/
theorem test_reset :
    (after { State.reset.val with
      st := { fields .readBitsSecond 1 0 .medium 0 2170 with faulted := true }
      stimuli := [.reset .default] }).map
        (fun r => ⟨r.1, { r.2.1 with byteStartTime := 0, bitStartTime := 0 }, r.2.2⟩) = seen fresh [] := by decide
/-- V15 in the least width that holds the defaults, with time stamps of 8 bits. -/
theorem test_other_widths :
    step ⟨⟨11, 8⟩, { StateAt.reset _ (Thresholds.default 11) with stimuli := [.token ⟨true, 390, 0, 86⟩] }⟩ =
      .next ⟨⟨11, 8⟩, { StateAt.reset _ (Thresholds.default 11) with
        token := ⟨true, 390, 0, 86⟩, events := [⟨.pulse .short, 0, 86⟩] }⟩ := by rfl

/-! ### Presenting table words -/

/-- The state in which the next step has sampled its inputs. -/
def sampled (s : StateAt .default) : StateAt .default :=
  match s.stimuli with
  | x :: rest => s.latch x rest
  | [] => s

/-- The operation the next step runs, if something is presented. -/
def fetched (s : State) : Option Instr :=
  match s.val.stimuli with
  | x :: rest => (s.val.latch x rest).fetch.toOption
  | [] => none

/-- Every dispatch word with a valid pulse and `ge_min` 1, a named state, and no use of the code 0b01 is fetched whole. -/
theorem test_withFetchWord_dispatch : ∀ w ∈ [0x04, 0x05, 0x06, 0x24, 0x25, 0x26, 0x44, 0x45, 0x46, 0x64, 0x65, 0x66, 0x94,
      0x95, 0x96, 0x9C, 0x9D, 0x9E, 0x84, 0x85, 0x86, 0x03, 0x07, 0x63, 0x9F],
    fetched (State.reset.withFetchWord 8 w) = decodeTableWord 8 w := by decide
theorem test_withFetchWord_control : ∀ w ∈ [0, 2, 3, 4, 5, 6, 7],
    fetched (State.reset.withFetchWord 3 w) = decodeTableWord 3 w := by decide
/-- An event word, from R57 to R60: Error(glitch). -/
theorem test_event_word : (ev (.error .glitch) 1 2).word = 5#3 ++ 3#8 ++ 1#64 ++ 2#64 := by decide

/-! ### Witnesses: the hypotheses of each statement can be met together -/

theorem witness_FiveOutcomesOfTheClassifier :
    ThresholdConfig.default.Legal ∧ classify ThresholdConfig.default 1201#16 = .invalid := by decide
theorem witness_EdgesOfTheWindowAreShortAndLong :
    ThresholdConfig.default.Legal ∧ classify ThresholdConfig.default 465#16 = .medium := by decide
theorem witness_ClassifierIsMonotone :
    smSum ThresholdConfig.default ≤ mlSum ThresholdConfig.default ∧ (150#16 ≤ 1200#16) ∧
    classify ThresholdConfig.default 150#16 ≠ .invalid ∧ classify ThresholdConfig.default 1200#16 ≠ .invalid ∧
    classify ThresholdConfig.default 149#16 = .invalid ∧ geMin ThresholdConfig.default 149#16 = false ∧
    ThresholdConfig.default.maxValidUs < 1201#16 := by decide
theorem witness_DefaultRangesOfDurations :
    11 ≤ 16 ∧ (149#16).toNat < 150 ∧ (464#16).toNat ≤ 464 ∧ (150 ≤ (464#16).toNat) ∧ (465 ≤ (619#16).toNat) ∧
    (620 ≤ (1200#16).toNat) ∧ (1201 ≤ (0xFFFF#16).toNat) := by decide
theorem witness_OnlyProducibleWordsAreFetched :
    (sampled (facing fresh (pulse 390 0 390))).st.HoldsFirstExactlyInPair ∧
    (sampled (facing fresh (pulse 390 0 390))).fetch = .ok (.wm1S 0#2 true) := by decide

/-- A state in which a write can be seen in every field. -/
def busy : StateAt .default :=
  { facing ⟨.readBitsSecond, 7#3, 0x41#8, .short, 5#64, 6#64, false⟩ (pulse 540 8 9) with token := pulse 540 8 9 }

theorem witness_LongOpensAMarker : ∃ t, exec (.wm1L 0#2 true) ⟨.default, busy⟩ = .next ⟨.default, t⟩ ∧
    t.st.byteStartTime ≠ busy.st.byteStartTime := ⟨_, rfl, by decide⟩
theorem witness_ACompletedPairAccumulatesItsBit_last : busy.st.bitIndex = 7#3 := by decide
theorem witness_ACompletedPairAccumulatesItsBit_not_last : (facing fresh (pulse 1 2 3)).st.bitIndex ≠ 7#3 := by decide
theorem witness_ABadPairDiscardsTheByte : (Instr.rb2XL true false, PulseType.long) ∈
    [(Instr.rb2SS false, PulseType.short), (.rb2XL true false, .long)] := by decide
theorem witness_AsciiPayload : (0x20 ≤ (0x20#8).toNat ∧ (0x20#8).toNat ≤ 0x7E) ∧ (0x1F#8).toNat < 0x20 ∧
    0x7E < (0x7F#8).toNat := by decide
theorem witness_OnlyTheNamedOperationsWriteAField_byte : ∃ t,
    exec (.rb2SM true) ⟨.default, busy⟩ = .next ⟨.default, t⟩ ∧
    t.st.bitIndex ≠ busy.st.bitIndex ∧ t.st.fsmState ≠ busy.st.fsmState ∧ t.st.firstOfPair ≠ busy.st.firstOfPair :=
  ⟨_, rfl, by decide⟩
theorem witness_OnlyTheNamedOperationsWriteAField_first : ∃ t,
    exec (.rb1M 0#2 true) ⟨.default, busy⟩ = .next ⟨.default, t⟩ ∧
    t.st.firstOfPair ≠ busy.st.firstOfPair ∧ t.st.firstOfPair ≠ .none ∧ t.st.bitStartTime ≠ busy.st.bitStartTime :=
  ⟨_, rfl, by decide⟩
theorem witness_OnlyTheNamedOperationsWriteAField_fault : ∃ t, exec .norate ⟨.default, busy⟩ = .next ⟨.default, t⟩ ∧
    t.st.faulted ≠ busy.st.faulted := ⟨_, rfl, by decide⟩
theorem witness_EventsOfEachOperation : ∃ t, exec (.rb2SM true) ⟨.default, busy⟩ = .next ⟨.default, t⟩ ∧
    t.events.map (fun e => e.body.kind) = [.pulse, .bit, .byte, .ascii] := ⟨_, rfl, by decide⟩
theorem witness_TimeRangesOfEvents : ∃ t, exec (.rb2SM true) ⟨.default, busy⟩ = .next ⟨.default, t⟩ ∧
    ev (.byte 0x41) 5 9 ∈ t.events.drop busy.events.length := ⟨_, rfl, by decide⟩
theorem witness_AStepEmitsAtMostFourEvents : ∃ t, step ⟨.default, busy⟩ = .next ⟨.default, t⟩ ∧
    t.events.length = 4 := ⟨_, rfl, by decide⟩
theorem witness_ACompletedPairInsertsItsBit : ∃ t, busy.st.fsmState = .readBitsSecond ∧ busy.st.UnreadBitsClear ∧
    exec (if true then .rb2MS true else .rb2SM true) ⟨.default, busy⟩ = .next ⟨.default, t⟩ :=
  ⟨_, rfl, by decide, rfl⟩
theorem witness_AStepRunsTheDecodedOperation_waits : State.reset.val.stimuli = [] := rfl
theorem witness_AStepRunsTheDecodedOperation_token :
    (facing fresh (pulse 390 0 390)).stimuli = [.token (pulse 390 0 390)] ∧
    decode (.ctl (sampled (facing fresh (pulse 390 0 390))).controlWord) = .error .normalDispatch ∧
    decode (.dw (sampled (facing fresh (pulse 390 0 390))).dispatchWord) = .ok (.wm1S 0#2 true) := by decide
theorem witness_AStepRunsTheDecodedOperation_control :
    decode (.ctl (sampled (facing fresh { pulse 390 0 390 with rateOk := false })).controlWord) = .ok .norate ∧
    decode (.ctl (sampled { State.reset.val with stimuli := [.reset .default] }).controlWord) = .ok (.reset false false) := by
  decide
theorem witness_PriorityOfConditions : ∀ us ∈ [149, 1201, 150],
    (facing fresh (pulse us 0 1)).stimuli = [.token (pulse us 0 1)] ∧ (facing fresh (pulse us 0 1)).cfg.Legal ∧
    (facing fresh (pulse us 0 1)).st.faulted = false ∧ (pulse us 0 1).rateOk = true := by decide
theorem witness_PriorityOfConditions_clauses :
    (pulse 149 0 1).us < ThresholdConfig.default.minValidUs ∧ ThresholdConfig.default.maxValidUs < (pulse 1201 0 1).us ∧
    ThresholdConfig.default.minValidUs ≤ (pulse 150 0 1).us ∧ (pulse 150 0 1).us ≤ ThresholdConfig.default.maxValidUs ∧
    ({ fresh with faulted := true } : DecoderState .default).faulted = true ∧
    ({ pulse 1 2 3 with rateOk := false } : Token .default).rateOk = false := by decide
theorem witness_EveryStepKeepsTheFramingInvariant : ∃ t,
    busy.st.Framed ∧ step ⟨.default, busy⟩ = .next ⟨.default, t⟩ :=
  ⟨_, ⟨by decide, by decide⟩, rfl⟩
theorem witness_TheConfigurationIsFixedPerSession : ∃ t,
    busy.CfgLegal ∧ step ⟨.default, busy⟩ = .next ⟨.default, t⟩ :=
  ⟨_, ⟨by decide, by intro x hx; cases hx with | head => trivial | tail _ h => cases h⟩, rfl⟩

/-- A block that has faulted, facing a good token. -/
def halted : StateAt .default := facing { fresh with faulted := true } (pulse 700 0 700)

theorem witness_TheFaultIsHeldUntilReset_held : ∃ t, halted.stimuli = [.token (pulse 700 0 700)] ∧
    halted.st.faulted = true ∧ step ⟨.default, halted⟩ = .next ⟨.default, t⟩ := ⟨_, rfl, rfl, rfl⟩
theorem witness_TheFaultIsHeldUntilReset_cleared : ∃ t,
    step ⟨.default, { halted with stimuli := [.reset .default] }⟩ = .next ⟨.default, t⟩ ∧
    halted.st.faulted = true ∧ t.st.faulted = false := ⟨_, rfl, rfl, rfl⟩
theorem witness_TheFaultIsHeldUntilReset_raised : ∃ t,
    step ⟨.default, facing fresh { pulse 700 0 700 with rateOk := false }⟩ = .next ⟨.default, t⟩ ∧
    (facing fresh (pulse 1 2 3)).st.faulted = false ∧ t.st.faulted = true := ⟨_, rfl, rfl, rfl⟩
theorem witness_AnInvalidPulseInAnyState : ∀ us ∈ [149, 1201],
    (facing busy.st (pulse us 0 1)).stimuli = [.token (pulse us 0 1)] ∧ (facing busy.st (pulse us 0 1)).st.faulted = false ∧
    (pulse us 0 1).rateOk = true ∧ (facing busy.st (pulse us 0 1)).cfg.Legal ∧
    classify (facing busy.st (pulse us 0 1)).cfg (pulse us 0 1).us = .invalid := by decide
theorem witness_EveryReportedErrorResynchronises : ∃ t,
    step ⟨.default, facing busy.st (pulse 390 10 20)⟩ = .next ⟨.default, t⟩ ∧
    ev (.error .badBitPair) 10 20 ∈ t.events.drop (facing busy.st (pulse 390 10 20)).events.length ∧
    (ev (.error .badBitPair) 10 20).body.kind = .error ∧
    (facing busy.st (pulse 390 10 20)).st.HoldsFirstExactlyInPair := ⟨_, rfl, by decide⟩

/-- Two states that differ in both time stamps, neither written yet. -/
def unwritten (n : Nat) : StateAt .default := facing (fields .waitMarkFirst 0 0 .none n n) (pulse 700 0 700)

theorem witness_UnwrittenTimeStampsAreNeverObserved : ∃ t t', SameButUnwritten (unwritten 1) (unwritten 2) ∧
    unwritten 1 ≠ unwritten 2 ∧ step ⟨.default, unwritten 1⟩ = .next ⟨.default, t⟩ ∧
    step ⟨.default, unwritten 2⟩ = .next ⟨.default, t'⟩ :=
  ⟨_, _, by constructor <;> decide, by decide, rfl, rfl⟩
theorem witness_AStepReadsOnlyStateConfigurationAndToken : ∃ t t',
    busy.st = { busy with events := [ev (.bit true) 0 1] }.st ∧ busy.stimuli = [.token (pulse 540 8 9)] ∧
    step ⟨.default, busy⟩ = .next ⟨.default, t⟩ ∧
    step ⟨.default, { busy with events := [ev (.bit true) 0 1] }⟩ = .next ⟨.default, t'⟩ :=
  ⟨_, _, rfl, rfl, rfl, rfl⟩
/-- E3's pairs, least significant bit first: the two tokens that encode bit `k` of 0x41. -/
def pairs (k : Fin 8) : Token .default × Token .default :=
  if (0x41#8).getLsbD k then (pulse 540 0 1, pulse 390 1 2) else (pulse 390 0 1, pulse 540 1 2)

/-- The reset state facing E3's whole frame. -/
def framed : StateAt .default :=
  { State.reset.val with
    stimuli := .token (pulse 700 0 700) :: .token (pulse 540 700 1240) ::
      ((List.ofFn pairs).flatMap (fun p => [.token p.1, .token p.2]) ++ []) }

theorem witness_AMarkerStartsAByteWhateverWasLeft : ∃ rest,
    framed.st.fsmState = .waitMarkFirst ∧ framed.FaultFree ∧ framed.cfg.Legal ∧
    framed.stimuli = .token (pulse 700 0 700) :: .token (pulse 540 700 1240) :: rest ∧
    (pulse 700 0 700).rateOk = true ∧ (pulse 540 700 1240).rateOk = true ∧
    classify framed.cfg (pulse 700 0 700).us = .long ∧ classify framed.cfg (pulse 540 700 1240).us = .medium :=
  ⟨_, rfl, rfl, by decide, rfl, rfl, rfl, by decide, by decide⟩

/-- The reset state facing three Longs. -/
def ending : StateAt .default :=
  { State.reset.val with stimuli := [.token (pulse 700 0 700), .token (pulse 620 700 1320), .token (pulse 1200 1320 2520)] }

theorem witness_ThreeLongsGiveOneEndMarker :
    ending.st.fsmState = .waitMarkFirst ∧ ending.FaultFree ∧ ending.cfg.Legal ∧
    ending.stimuli = .token (pulse 700 0 700) :: .token (pulse 620 700 1320) :: .token (pulse 1200 1320 2520) :: [] ∧
    (∀ us ∈ [700, 620, 1200], (pulse us 0 1).rateOk = true ∧ classify ending.cfg (pulse us 0 1).us = .long) := by decide
theorem witness_AFrameDecodesToItsByte :
    framed.st.fsmState = .waitMarkFirst ∧ framed.FaultFree ∧ framed.cfg.Legal ∧
    (pulse 700 0 700).rateOk = true ∧ (pulse 540 700 1240).rateOk = true ∧
    classify framed.cfg (pulse 700 0 700).us = .long ∧ classify framed.cfg (pulse 540 700 1240).us = .medium ∧
    (∀ k : Fin 8, IsBitPair framed.cfg ((0x41#8).getLsbD k) (pairs k).1 (pairs k).2) ∧
    framed.stimuli = .token (pulse 700 0 700) :: .token (pulse 540 700 1240) ::
      ((List.ofFn pairs).flatMap (fun p => [.token p.1, .token p.2]) ++ []) := by
  refine ⟨rfl, rfl, ?_, rfl, rfl, ?_, ?_, ?_, rfl⟩ <;> decide

/-! ### The port level -/

/-- Two events emitted, one of them taken, and a session under way. -/
def offering : StateAt .default := { State.reset.val with events := [ev (.bit true) 0 1, ev (.bit false) 1 2] }

/-- A cycle that presents a token under the configuration `c`. -/
def presenting (c : ThresholdConfig .default) : PortIn .default := ⟨false, c, true, pulse 390 0 390, true⟩

/-- Another legal configuration. -/
def other : ThresholdConfig .default := { ThresholdConfig.default with mediumUs := 541 }

theorem witness_PortsDeliverEveryEventInOrder :
    1 ≤ offering.events.length ∧ (presenting .default).cfg = offering.cfg := by decide
theorem witness_APortCycleIsAtMostOneStep :
    (presenting other).inValid = true ∧
    ((⟨State.reset, 0, false⟩ : PortState).out (presenting other)).inReady = true ∧
    (((⟨⟨_, offering⟩, 1, true⟩ : PortState).out (presenting other)).inReady) = false := by decide
theorem witness_AMidSessionChangeIsRefused :
    (presenting other).rst = false ∧ (presenting other).inValid = true ∧ offering.events.drop 2 = [] ∧
    (presenting other).cfg ≠ offering.cfg := by decide
theorem witness_AConfigurationPresentedAfterResetIsUsed :
    offering.events.drop 2 = [] ∧ ({ presenting .default with rst := true }).rst = true ∧
    (presenting other).rst = false ∧ (presenting other).inValid = true := by decide

/-- R143 (1), (2): reset under one configuration, then a token under another: 465 is Short under the second only. -/
theorem test_port_uses_the_configuration_presented_after_reset : ∃ c q,
    PortState.reset.cycle { presenting .default with rst := true } = .next ⟨⟨.default, c⟩, 0, false⟩ ∧
    PortState.cycle ⟨⟨.default, c⟩, 0, false⟩ { presenting other with token := pulse 465 0 465 } = .next q ∧
    q.block.val.events.map (fun e => e.body) = [.pulse .short] := ⟨_, _, rfl, rfl, rfl⟩

end Sys2Proof.Tests
end

section
/-! PROOFS. What each operation does to the block, to the output stream and to the model's own fields, as one equation over
all 26 operations. -/

namespace Sys2Proof.Machine

variable {w : Widths}

/-- R93: what ACCUM(b) makes of the block's fields; `bit_index` returns to 0 after the eighth bit because it wraps. -/
def DecoderState.accum (d : DecoderState w) (b : Bool) : DecoderState w :=
  { d with
    fsmState := if d.bitIndex = 7#3 then .waitMarkFirst else .readBitsFirst
    bitIndex := d.bitIndex + 1#3
    dataByte := d.dataByte ||| bitAt b d.bitIndex
    firstOfPair := .none }

/-- R111: the block's fields after RESET; `n` is the index of the first free value (log entry 4). -/
def resetFields (w : Widths) (n : Nat) : DecoderState w :=
  { DecoderState.reset w with
    byteStartTime := Config.freeTimeStamp w n
    bitStartTime := Config.freeTimeStamp w (n + 1) }

/-- R80 to R111: the block's fields after an operation on the token `x`, with `n` the index of the next free value. -/
def fieldsAfter (i : Instr) (d : DecoderState w) (x : Token w) (n : Nat) : DecoderState w :=
  match i with
  | .wm1S _ _ | .wm1M _ _ | .wm2S _ _ | .wm3S _ _ | .wm3M _ _ | .wm3L _ _ | .rb1L _ _ =>
    { d with fsmState := .waitMarkFirst }
  | .wm1L _ _ => { d with fsmState := .waitMarkSecond, byteStartTime := x.start }
  | .wm2M _ _ => { d with fsmState := .readBitsFirst, bitIndex := 0#3, dataByte := 0x00#8 }
  | .wm2L _ _ => { d with fsmState := .waitMarkThird }
  | .rb1S _ _ => { d with fsmState := .readBitsSecond, firstOfPair := .short, bitStartTime := x.start }
  | .rb1M _ _ => { d with fsmState := .readBitsSecond, firstOfPair := .medium, bitStartTime := x.start }
  | .rb2SM _ => d.accum false
  | .rb2MS _ => d.accum true
  | .rb2SS _ | .rb2SL _ | .rb2MM _ | .rb2ML _ | .rb2XS _ _ | .rb2XM _ _ | .rb2XL _ _
  | .glitchLo _ _ | .glitchHi _ _ => { d with fsmState := .waitMarkFirst, firstOfPair := .none }
  | .reset _ _ => resetFields w n
  | .fhold _ => d
  | .norate => { d with faulted := true }

/-- R93: the events of ACCUM(b), the byte and its Ascii event after the eighth bit only. -/
def pairEvents (b : Bool) (d : DecoderState w) (x : Token w) : List (Event w) :=
  ⟨.bit b, d.bitStartTime, x.stop⟩ ::
    if d.bitIndex = 7#3 then
      [⟨.byte (d.accum b).dataByte, d.byteStartTime, x.stop⟩,
        ⟨.ascii (asciiOf (d.accum b).dataByte), d.byteStartTime, x.stop⟩]
    else []

/-- R112, R113: the events an operation emits on the token `x`, in order. -/
def eventsOf (i : Instr) (d : DecoderState w) (x : Token w) : List (Event w) :=
  let here (k : EventBody) : Event w := ⟨k, x.start, x.stop⟩
  let sinceMarker (k : EventBody) : Event w := ⟨k, d.byteStartTime, x.stop⟩
  match i with
  | .wm1S _ _ | .rb1S _ _ => [here (.pulse .short)]
  | .wm1M _ _ | .rb1M _ _ => [here (.pulse .medium)]
  | .wm1L _ _ | .wm2L _ _ => [here (.pulse .long)]
  | .wm2S _ _ | .wm3S _ _ => [here (.pulse .short), here (.error .badMarker)]
  | .wm3M _ _ => [here (.pulse .medium), here (.error .badMarker)]
  | .wm2M _ _ => [here (.pulse .medium), sinceMarker (.marker .byteStart)]
  | .wm3L _ _ => [here (.pulse .long), sinceMarker (.marker .eof)]
  | .rb1L _ _ => [here (.pulse .long), here (.error .badBitStart)]
  | .rb2SM _ => here (.pulse .medium) :: pairEvents false d x
  | .rb2MS _ => here (.pulse .short) :: pairEvents true d x
  | .rb2SS _ | .rb2XS _ _ => [here (.pulse .short), here (.error .badBitPair)]
  | .rb2MM _ | .rb2XM _ _ => [here (.pulse .medium), here (.error .badBitPair)]
  | .rb2SL _ | .rb2ML _ | .rb2XL _ _ => [here (.pulse .long), here (.error .badBitPair)]
  | .glitchHi _ _ => [here (.error .glitch)]
  | .glitchLo _ _ | .reset _ _ | .fhold _ | .norate => []

/-- R109, R110: the fault outcome an operation leaves (log entry 5). -/
def raisedAfter (i : Instr) (r : Option Fault) : Option Fault :=
  match i with
  | .fhold _ | .norate => some .missingSampleRate
  | _ => r

/-- R111: only RESET uses up free values, two of them (log entry 4). -/
def freeCountAfter (i : Instr) (n : Nat) : Nat :=
  match i with
  | .reset _ _ => n + 2
  | _ => n

/-- Everything an operation does: what is not named here it leaves alone. -/
def StateAt.after (s : StateAt w) (i : Instr) : StateAt w :=
  { s with
    st := fieldsAfter i s.st s.token s.freeCount
    events := s.events ++ eventsOf i s.st s.token
    raised := raisedAfter i s.raised
    freeCount := freeCountAfter i s.freeCount }

section
variable (s : StateAt w) (i : Instr)

@[simp] theorem StateAt.after_st : (s.after i).st = fieldsAfter i s.st s.token s.freeCount := rfl
@[simp] theorem StateAt.after_cfg : (s.after i).cfg = s.cfg := rfl
@[simp] theorem StateAt.after_rst : (s.after i).rst = s.rst := rfl
@[simp] theorem StateAt.after_token : (s.after i).token = s.token := rfl
@[simp] theorem StateAt.after_stimuli : (s.after i).stimuli = s.stimuli := rfl
@[simp] theorem StateAt.after_events : (s.after i).events = s.events ++ eventsOf i s.st s.token := rfl
@[simp] theorem StateAt.after_raised : (s.after i).raised = raisedAfter i s.raised := rfl
@[simp] theorem StateAt.after_freeCount : (s.after i).freeCount = freeCountAfter i s.freeCount := rfl

end

theorem StateAt.accum_acceptPulse (s : StateAt w) (p : PulseType) (b : Bool) :
    (s.acceptPulse p).accum b =
      { s with
        st := s.st.accum b
        events := s.events ++ ⟨.pulse p, s.token.start, s.token.stop⟩ :: pairEvents b s.st s.token } := by
  by_cases h : s.st.bitIndex = 7#3
  · rw [StateAt.accum_of_last (s.acceptPulse p) b h]
    simp [StateAt.acceptPulse_eq, DecoderState.accum, pairEvents, h]
  · rw [StateAt.accum_of_not_last (s.acceptPulse p) b h]
    simp [StateAt.acceptPulse_eq, DecoderState.accum, pairEvents, h]

/-- Every operation answers a next state, and this one. -/
theorem exec_eq (i : Instr) (s : StateAt w) : exec i ⟨w, s⟩ = .next ⟨w, s.after i⟩ := by
  cases i with
  | rb2SM g => exact congrArg _ (congrArg _ (s.accum_acceptPulse .medium false))
  | rb2MS g => exact congrArg _ (congrArg _ (s.accum_acceptPulse .short true))
  | _ =>
    simp [exec, execWm1S, execWm1M, execWm1L, execWm2S, execWm2M, execWm2L, execWm3S, execWm3M, execWm3L, execRb1S, execRb1M,
      execRb1L, execRb2SS, execRb2SL, execRb2MM, execRb2ML, execRb2XS, execRb2XM, execRb2XL, execGlitchLo, execGlitchHi,
      execReset, execFhold, execNorate, StateAt.after, fieldsAfter, resetFields, eventsOf, raisedAfter, freeCountAfter,
      StateAt.takeError_eq, StateAt.acceptPulse_eq, StateAt.emitSinceMarker_eq, StateAt.goto, StateAt.setFirstOfPair,
      StateAt.recordByteStart, StateAt.recordBitStart, StateAt.setBitIndex, StateAt.setDataByte, StateAt.setFaulted,
      StateAt.resync, StateAt.raiseMissingSampleRate, StateAt.applyReset]

end Sys2Proof.Machine
end

section
/-! PROOFS. What a step does, by what is presented to it (43_step_and_glitch.md R105, 60_exceptions.md R128). -/

namespace Sys2Proof.Machine

variable {w : Widths}

@[simp] theorem StateAt.latch_token (s : StateAt w) (x : Token w) (rest : List (Stimulus w)) :
    s.latch (.token x) rest = { s with rst := false, token := x, stimuli := rest, raised := none } := rfl

@[simp] theorem StateAt.latch_reset (s : StateAt w) (c : ThresholdConfig w) (rest : List (Stimulus w)) :
    s.latch (.reset c) rest = { s with rst := true, cfg := c, stimuli := rest, raised := none } := rfl

/-- R128: the operation a token selects: FHOLD in a fault, then NORATE without a sample rate, then the row of R64. -/
def tokenInstr (d : DecoderState w) (c : ThresholdConfig w) (x : Token w) : Instr :=
  if d.faulted then .fhold x.rateOk
  else if x.rateOk then rowOf d.fsmState d.firstOfPair (geMin c x.us) (classify c x.us)
  else .norate

theorem step_of_token {s : StateAt w} {x : Token w} {rest : List (Stimulus w)} (h : s.stimuli = .token x :: rest) :
    step ⟨w, s⟩ = .next ⟨w, (s.latch (.token x) rest).after (tokenInstr s.st s.cfg x)⟩ := by
  rw [step_of_presented h, runLatched_eq, exec_eq]
  rfl

theorem step_of_reset {s : StateAt w} {c : ThresholdConfig w} {rest : List (Stimulus w)} (h : s.stimuli = .reset c :: rest) :
    step ⟨w, s⟩ = .next ⟨w, (s.latch (.reset c) rest).after (.reset s.st.faulted s.token.rateOk)⟩ := by
  rw [step_of_presented h, runLatched_eq, exec_eq]
  rfl

/-- R105: what a step leads to, by what is presented. -/
inductive Stepped (s : StateAt w) : StateAt w → Prop
  | waits (h : s.stimuli = []) : Stepped s s
  | resets (c : ThresholdConfig w) (rest : List (Stimulus w)) (h : s.stimuli = .reset c :: rest) :
      Stepped s ((s.latch (.reset c) rest).after (.reset s.st.faulted s.token.rateOk))
  | takes (x : Token w) (rest : List (Stimulus w)) (h : s.stimuli = .token x :: rest) :
      Stepped s ((s.latch (.token x) rest).after (tokenInstr s.st s.cfg x))

theorem stepped_of_step {s t : StateAt w} (h : step ⟨w, s⟩ = .next ⟨w, t⟩) : Stepped s t := by
  cases hs : s.stimuli with
  | nil => rw [step_of_nothing_presented hs, next_mk_inj] at h; exact h ▸ .waits hs
  | cons y rest =>
    cases y with
    | token x => rw [step_of_token hs, next_mk_inj] at h; exact h ▸ .takes x rest hs
    | reset c => rw [step_of_reset hs, next_mk_inj] at h; exact h ▸ .resets c rest hs

/-- The operations a token selects, by what the block and the token say. -/
theorem tokenInstr_cases (d : DecoderState w) (c : ThresholdConfig w) (x : Token w) :
    (d.faulted = true ∧ tokenInstr d c x = .fhold x.rateOk) ∨
    (d.faulted = false ∧ x.rateOk = false ∧ tokenInstr d c x = .norate) ∨
    (d.faulted = false ∧ x.rateOk = true ∧
      tokenInstr d c x = rowOf d.fsmState d.firstOfPair (geMin c x.us) (classify c x.us)) := by
  cases hf : d.faulted <;> cases hx : x.rateOk <;> simp [tokenInstr, hf, hx]

/-- The rows of the operation map are no control operations. -/
theorem rowOf_not_control (f : FsmState) (q : FirstOfPair) (g : Bool) (p : PulseType) :
    (∀ a b, rowOf f q g p ≠ .reset a b) ∧ rowOf f q g p ≠ .norate := by
  cases f <;> cases q <;> cases g <;> cases p <;> simp [rowOf]

theorem tokenInstr_of_faulted {d : DecoderState w} (h : d.faulted = true) (c : ThresholdConfig w) (x : Token w) :
    tokenInstr d c x = .fhold x.rateOk := by simp [tokenInstr, h]

theorem tokenInstr_ne_reset (d : DecoderState w) (c : ThresholdConfig w) (x : Token w) (a b : Bool) :
    tokenInstr d c x ≠ .reset a b := by
  obtain ⟨-, hi⟩ | ⟨-, -, hi⟩ | ⟨-, -, hi⟩ := tokenInstr_cases d c x
  · simp [hi]
  · simp [hi]
  · simp [hi, rowOf_not_control]

/-- NORATE is selected exactly by a token without a sample rate, outside a fault. -/
theorem tokenInstr_eq_norate_iff (d : DecoderState w) (c : ThresholdConfig w) (x : Token w) :
    tokenInstr d c x = .norate ↔ d.faulted = false ∧ x.rateOk = false := by
  obtain ⟨hf, hi⟩ | ⟨hf, hx, hi⟩ | ⟨hf, hx, hi⟩ := tokenInstr_cases d c x
  · simp [hi, hf]
  · simp [hi, hf, hx]
  · simp [hi, hx, rowOf_not_control]

/-- A token's operation uses no free value. -/
theorem fieldsAfter_tokenInstr_free {d e : DecoderState w} (c : ThresholdConfig w) (x : Token w) (m n : Nat) :
    fieldsAfter (tokenInstr d c x) e x m = fieldsAfter (tokenInstr d c x) e x n := by
  have hne := tokenInstr_ne_reset d c x
  cases hi : tokenInstr d c x with
  | reset a b => exact absurd hi (hne a b)
  | _ => rfl

end Sys2Proof.Machine
end

section
/-! PROOFS. 10_state.md R33 (a), (b): the framing invariant, and the bit that a completed pair inserts (42_bit_states.md R104). -/

namespace Sys2Proof.Machine

variable {w : Widths}

/-- A byte whose positions from `n` up are 0. -/
theorem shiftRight_eq_zero_iff {v : Byte} {n : Nat} : v >>> n = 0#8 ↔ ∀ k, n ≤ k → v.getLsbD k = false := by
  constructor
  · intro h k hk
    have := congrArg (BitVec.getLsbD · (k - n)) h
    simpa [BitVec.getLsbD_ushiftRight, Nat.add_sub_cancel' hk] using this
  · intro h
    refine BitVec.eq_of_getLsbD_eq fun k _ => ?_
    simpa [BitVec.getLsbD_ushiftRight] using h (n + k) (Nat.le_add_right n k)

/-- R93: the shifted bit stands at its position alone. -/
theorem getLsbD_bitAt (b : Bool) (i : BitVec 3) (k : Nat) : (bitAt b i).getLsbD k = (decide (k = i.toNat) && b) := by
  have hi := i.isLt
  by_cases hk : k = i.toNat
  · simp [bitAt, BitVec.getLsbD_shiftLeft, hk]
    omega
  · have : k < i.toNat ∨ 0 < k - i.toNat := by omega
    rcases this with h | h
    · simp [bitAt, BitVec.getLsbD_shiftLeft, hk, h]
    · simp [bitAt, BitVec.getLsbD_shiftLeft, hk, Nat.ne_of_gt h]

/-- R104: ORing a bit into a byte that is clear from its position up inserts it. -/
theorem getLsbD_or_bitAt {v : Byte} {i : BitVec 3} (h : v >>> i.toNat = 0#8) (b : Bool) (k : Nat) :
    (v ||| bitAt b i).getLsbD k = if k = i.toNat then b else if k < i.toNat then v.getLsbD k else false := by
  have clear := shiftRight_eq_zero_iff.1 h
  rw [BitVec.getLsbD_or, getLsbD_bitAt]
  by_cases hk : k = i.toNat
  · simp [hk, clear i.toNat le_rfl]
  · by_cases hlt : k < i.toNat
    · simp [hk, hlt]
    · simp [hk, hlt, clear k (by omega)]

/-- A completed bit before the eighth leaves the positions after it clear. -/
theorem or_bitAt_clear {v : Byte} {i : BitVec 3} (h : v >>> i.toNat = 0#8) (hi : i ≠ 7#3) (b : Bool) :
    (v ||| bitAt b i) >>> (i + 1#3).toNat = 0#8 := by
  have hn : (i + 1#3).toNat = i.toNat + 1 := by bv_omega
  rw [hn, shiftRight_eq_zero_iff]
  intro k hk
  rw [getLsbD_or_bitAt h, if_neg (by omega), if_neg (by omega)]

/-- Settles O31: the decoded bit is ORed into a byte that is clear from its position up. -/
theorem aCompletedPairInsertsItsBit : Obligations.ACompletedPairInsertsItsBit := by
  intro w s t g b hf clear h k
  have hbyte : t.st.dataByte = s.st.dataByte ||| bitAt b s.st.bitIndex := by
    rw [exec_eq, next_mk_inj] at h
    subst h
    cases b <;> rfl
  rw [hbyte, getLsbD_or_bitAt (clear (.inr hf))]

/-- R33 (a) and (b), state by state. -/
theorem framed_iff (d : DecoderState w) :
    d.Framed ↔
      match d.fsmState with
      | .waitMarkFirst | .waitMarkSecond | .waitMarkThird => d.firstOfPair = .none
      | .readBitsFirst => d.firstOfPair = .none ∧ d.dataByte >>> d.bitIndex.toNat = 0#8
      | .readBitsSecond => d.firstOfPair ≠ .none ∧ d.dataByte >>> d.bitIndex.toNat = 0#8 := by
  have as_and : d.Framed ↔ d.HoldsFirstExactlyInPair ∧ d.UnreadBitsClear := ⟨fun ⟨a, b⟩ => ⟨a, b⟩, fun ⟨a, b⟩ => ⟨a, b⟩⟩
  rw [as_and, DecoderState.HoldsFirstExactlyInPair, DecoderState.UnreadBitsClear]
  cases d.fsmState <;> simp [ReadsBits]

theorem framed_accum {d : DecoderState w} (h : d.dataByte >>> d.bitIndex.toNat = 0#8) (b : Bool) : (d.accum b).Framed := by
  by_cases hi : d.bitIndex = 7#3
  · simp [framed_iff, DecoderState.accum, hi]
  · simpa [framed_iff, DecoderState.accum, hi] using or_bitAt_clear h hi b

/-- Every row of the operation map keeps R33 (a) and (b), in the state that selects it. -/
theorem framed_fieldsAfter_rowOf {d : DecoderState w} (h : d.Framed) (g : Bool) (p : PulseType) (x : Token w) (n : Nat) :
    (fieldsAfter (rowOf d.fsmState d.firstOfPair g p) d x n).Framed := by
  cases hf : d.fsmState with
  | waitMarkFirst | waitMarkSecond | waitMarkThird =>
    have hnone : d.firstOfPair = .none := by simpa [framed_iff, hf] using h
    cases p <;> cases g <;> simp [framed_iff, rowOf, fieldsAfter, hnone]
  | readBitsFirst =>
    obtain ⟨hnone, hclear⟩ : d.firstOfPair = .none ∧ d.dataByte >>> d.bitIndex.toNat = 0#8 := by
      simpa [framed_iff, hf] using h
    cases p <;> cases g <;> simp [framed_iff, rowOf, fieldsAfter, hnone, hclear]
  | readBitsSecond =>
    obtain ⟨hheld, hclear⟩ : d.firstOfPair ≠ .none ∧ d.dataByte >>> d.bitIndex.toNat = 0#8 := by
      simpa [framed_iff, hf] using h
    cases hq : d.firstOfPair with
    | none => exact absurd hq hheld
    | short =>
      cases p with
      | medium => exact framed_accum hclear false
      | _ => cases g <;> simp [framed_iff, rowOf, fieldsAfter]
    | medium =>
      cases p with
      | short => exact framed_accum hclear true
      | _ => cases g <;> simp [framed_iff, rowOf, fieldsAfter]

theorem framed_resetFields (w : Widths) (n : Nat) : (resetFields w n).Framed := by
  simp [framed_iff, resetFields, DecoderState.reset]

theorem framed_fieldsAfter_tokenInstr {d : DecoderState w} (h : d.Framed) (c : ThresholdConfig w) (x : Token w) (n : Nat) :
    (fieldsAfter (tokenInstr d c x) d x n).Framed := by
  obtain ⟨-, hi⟩ | ⟨-, -, hi⟩ | ⟨-, -, hi⟩ := tokenInstr_cases d c x
  · rw [hi]; exact h
  · rw [hi]; exact ⟨h.first, h.clear⟩
  · rw [hi]; exact framed_fieldsAfter_rowOf h _ _ x n

/-- Settles O37: by the three things a step can do, and for a token by the state that selects its row. -/
theorem everyStepKeepsTheFramingInvariant : Obligations.EveryStepKeepsTheFramingInvariant := by
  intro w s t h hstep
  cases stepped_of_step hstep with
  | waits => exact h
  | resets c rest hs => exact framed_resetFields w s.freeCount
  | takes x rest hs => exact framed_fieldsAfter_tokenInstr h s.cfg x s.freeCount

/-- Settles O36: the default configuration that stands in the reset state is log entry 2. -/
theorem framingInvariantAtReset : Obligations.FramingInvariantAtReset :=
  ⟨(framed_iff _).2 rfl, ⟨by decide, fun _ h => absurd h List.not_mem_nil⟩, rfl⟩

end Sys2Proof.Machine
end

section
/-! PROOFS. 10_state.md R33 (c): the time stamps that are not written yet reach no event. -/

namespace Sys2Proof.Machine

variable {w : Widths} {d e : DecoderState w}

/-- R33 (c) on the block's fields alone: `e` is `d` but for time stamps that no event may show yet. -/
structure AgreeOnWritten (d e : DecoderState w) : Prop where
  fields    : e = { d with byteStartTime := e.byteStartTime, bitStartTime := e.bitStartTime }
  byteStart : d.fsmState ≠ .waitMarkFirst → e.byteStartTime = d.byteStartTime
  bitStart  : d.fsmState = .readBitsSecond → e.bitStartTime = d.bitStartTime

theorem sameButUnwritten_iff {s t : StateAt w} :
    SameButUnwritten s t ↔ AgreeOnWritten s.st t.st ∧ s.cfg = t.cfg ∧ s.stimuli = t.stimuli ∧ s.events = t.events := by
  constructor
  · rintro ⟨fsm, index, data, first, faulted, byteStart, bitStart, cfg, stimuli, events⟩
    exact ⟨⟨by rw [fsm, index, data, first, faulted], fun h => (byteStart h).symm, fun h => (bitStart h).symm⟩,
      cfg, stimuli, events⟩
  · rintro ⟨⟨fields, byteStart, bitStart⟩, cfg, stimuli, events⟩
    exact ⟨by rw [fields], by rw [fields], by rw [fields], by rw [fields], by rw [fields],
      fun h => (byteStart h).symm, fun h => (bitStart h).symm, cfg, stimuli, events⟩

/-- Within a bit pair both time stamps are written. -/
theorem eq_of_agreeOnWritten_in_pair (h : AgreeOnWritten d e) (hf : d.fsmState = .readBitsSecond) : e = d := by
  rw [h.fields, h.byteStart (by simp [hf]), h.bitStart hf]

/-- No row shows a time stamp that is not written yet. -/
theorem eventsOf_rowOf_of_agree (h : AgreeOnWritten d e) (g : Bool) (p : PulseType) (x : Token w) :
    eventsOf (rowOf d.fsmState d.firstOfPair g p) e x = eventsOf (rowOf d.fsmState d.firstOfPair g p) d x := by
  cases hf : d.fsmState with
  | waitMarkFirst => cases p <;> cases g <;> rfl
  | waitMarkSecond | waitMarkThird | readBitsFirst =>
    have hb : e.byteStartTime = d.byteStartTime := h.byteStart (by simp [hf])
    cases p <;> cases g <;> simp [rowOf, eventsOf, hb]
  | readBitsSecond => rw [eq_of_agreeOnWritten_in_pair h hf]

/-- A row that leads to a state in which a time stamp may be shown writes that time stamp or comes from such a state. -/
theorem agreeOnWritten_fieldsAfter_rowOf (h : AgreeOnWritten d e) (g : Bool) (p : PulseType) (x : Token w) (n : Nat) :
    AgreeOnWritten (fieldsAfter (rowOf d.fsmState d.firstOfPair g p) d x n)
      (fieldsAfter (rowOf d.fsmState d.firstOfPair g p) e x n) := by
  cases hf : d.fsmState with
  | waitMarkFirst =>
    rw [h.fields]
    cases p <;> cases g <;> exact ⟨rfl, by simp [rowOf, fieldsAfter], by simp [rowOf, fieldsAfter]⟩
  | waitMarkSecond | waitMarkThird | readBitsFirst =>
    have hb : e.byteStartTime = d.byteStartTime := h.byteStart (by simp [hf])
    rw [h.fields, hb]
    cases p <;> cases g <;> exact ⟨rfl, fun _ => rfl, by simp [rowOf, fieldsAfter]⟩
  | readBitsSecond =>
    rw [eq_of_agreeOnWritten_in_pair h hf]
    exact ⟨rfl, fun _ => rfl, fun _ => rfl⟩

theorem tokenInstr_of_agree (h : AgreeOnWritten d e) (c : ThresholdConfig w) (x : Token w) :
    tokenInstr e c x = tokenInstr d c x := by
  rw [h.fields]; rfl

theorem eventsOf_tokenInstr_of_agree (h : AgreeOnWritten d e) (c : ThresholdConfig w) (x : Token w) :
    eventsOf (tokenInstr d c x) e x = eventsOf (tokenInstr d c x) d x := by
  obtain ⟨-, hi⟩ | ⟨-, -, hi⟩ | ⟨-, -, hi⟩ := tokenInstr_cases d c x
  · rw [hi]; rfl
  · rw [hi]; rfl
  · rw [hi]; exact eventsOf_rowOf_of_agree h _ _ x

theorem agreeOnWritten_fieldsAfter_tokenInstr (h : AgreeOnWritten d e) (c : ThresholdConfig w) (x : Token w) (n : Nat) :
    AgreeOnWritten (fieldsAfter (tokenInstr d c x) d x n) (fieldsAfter (tokenInstr d c x) e x n) := by
  obtain ⟨-, hi⟩ | ⟨-, -, hi⟩ | ⟨-, -, hi⟩ := tokenInstr_cases d c x
  · rw [hi]; exact h
  · rw [hi, h.fields]; exact ⟨rfl, h.byteStart, h.bitStart⟩
  · rw [hi]; exact agreeOnWritten_fieldsAfter_rowOf h _ _ x n

/-- RESET leads to `WaitMarkFirst`, where no time stamp is written. -/
theorem agreeOnWritten_resetFields (w : Widths) (m n : Nat) : AgreeOnWritten (resetFields w m) (resetFields w n) :=
  ⟨rfl, fun h => absurd rfl h, fun h => by simp [resetFields, DecoderState.reset] at h⟩

/-- Settles O42: both states present the same stimulus and select the same operation. -/
theorem unwrittenTimeStampsAreNeverObserved : Obligations.UnwrittenTimeStampsAreNeverObserved := by
  intro w s t s' t' hsame hs ht
  obtain ⟨agree, cfg, stimuli, events⟩ := sameButUnwritten_iff.1 hsame
  cases stepped_of_step hs with
  | waits h =>
    rw [step_of_nothing_presented (stimuli ▸ h), next_mk_inj] at ht
    exact ht ▸ hsame
  | resets c rest h =>
    rw [step_of_reset (stimuli ▸ h), next_mk_inj] at ht
    subst ht
    exact sameButUnwritten_iff.2 ⟨agreeOnWritten_resetFields w s.freeCount t.freeCount, rfl, rfl, by simp [eventsOf, events]⟩
  | takes x rest h =>
    rw [step_of_token (stimuli ▸ h), ← cfg, tokenInstr_of_agree agree, next_mk_inj] at ht
    subst ht
    refine sameButUnwritten_iff.2 ⟨?_, cfg, rfl, ?_⟩
    · simp only [StateAt.after_st, StateAt.latch_token]
      rw [fieldsAfter_tokenInstr_free (e := t.st) s.cfg x t.freeCount s.freeCount]
      exact agreeOnWritten_fieldsAfter_tokenInstr agree s.cfg x s.freeCount
    · simp only [StateAt.after_events, StateAt.latch_token, eventsOf_tokenInstr_of_agree agree, events]

end Sys2Proof.Machine
end

section
/-! PROOFS. 10_state.md R20, its column "written by": which operations change each field. -/

namespace Sys2Proof.Machine

variable {w : Widths} {i : Instr} {d : DecoderState w} {x : Token w} {n : Nat}

/-- The first pulse is changed by the operations of the bit pair, the glitches and RESET. -/
theorem writer_of_firstOfPair (h : (fieldsAfter i d x n).firstOfPair ≠ d.firstOfPair) :
    (∃ f g, i = .rb1S f g) ∨ (∃ f g, i = .rb1M f g) ∨
    (∃ g, i = .rb2SS g ∨ i = .rb2SM g ∨ i = .rb2SL g ∨ i = .rb2MS g ∨ i = .rb2MM g ∨ i = .rb2ML g) ∨
    (∃ l g, i = .rb2XS l g ∨ i = .rb2XM l g ∨ i = .rb2XL l g) ∨
    (∃ c f, i = .glitchLo c f ∨ i = .glitchHi c f) ∨ ∃ f k, i = .reset f k := by
  cases i with
  | wm1S | wm1M | wm1L | wm2S | wm2M | wm2L | wm3S | wm3M | wm3L | rb1L | fhold | norate => exact absurd rfl h
  | _ => simp

theorem holder_of_firstOfPair (h : (fieldsAfter i d x n).firstOfPair ≠ d.firstOfPair)
    (hp : (fieldsAfter i d x n).firstOfPair ≠ .none) : (∃ f g, i = .rb1S f g) ∨ ∃ f g, i = .rb1M f g := by
  cases i with
  | rb1S f g => exact .inl ⟨f, g, rfl⟩
  | rb1M f g => exact .inr ⟨f, g, rfl⟩
  | wm1S | wm1M | wm1L | wm2S | wm2M | wm2L | wm3S | wm3M | wm3L | rb1L | fhold | norate => exact absurd rfl h
  | _ => exact absurd rfl hp

theorem writer_of_bitIndex_or_dataByte
    (h : (fieldsAfter i d x n).bitIndex ≠ d.bitIndex ∨ (fieldsAfter i d x n).dataByte ≠ d.dataByte) :
    (∃ f g, i = .wm2M f g) ∨ (∃ g, i = .rb2SM g) ∨ (∃ g, i = .rb2MS g) ∨ ∃ f k, i = .reset f k := by
  cases i with
  | wm2M | rb2SM | rb2MS | reset => simp
  | _ => simp [fieldsAfter] at h

theorem writer_of_byteStartTime (h : (fieldsAfter i d x n).byteStartTime ≠ d.byteStartTime) :
    (∃ f g, i = .wm1L f g) ∨ ∃ f k, i = .reset f k := by
  cases i with
  | wm1L | reset => simp
  | _ => exact absurd rfl h

theorem writer_of_bitStartTime (h : (fieldsAfter i d x n).bitStartTime ≠ d.bitStartTime) :
    (∃ f g, i = .rb1S f g) ∨ (∃ f g, i = .rb1M f g) ∨ ∃ f k, i = .reset f k := by
  cases i with
  | rb1S | rb1M | reset => simp
  | _ => exact absurd rfl h

theorem writer_of_faulted (h : (fieldsAfter i d x n).faulted ≠ d.faulted) : i = .norate ∨ ∃ f k, i = .reset f k := by
  cases i with
  | norate | reset => simp
  | _ => exact absurd rfl h

theorem not_control_of_fsmState (h : (fieldsAfter i d x n).fsmState ≠ d.fsmState) : (∀ k, i ≠ .fhold k) ∧ i ≠ .norate := by
  cases i with
  | fhold | norate => exact absurd rfl h
  | _ => simp

/-- Settles O27: field by field, from the table of what each operation makes of the fields. -/
theorem onlyTheNamedOperationsWriteAField : Obligations.OnlyTheNamedOperationsWriteAField := by
  intro w i s t h
  rw [exec_eq, next_mk_inj] at h
  subst h
  exact ⟨not_control_of_fsmState, writer_of_bitIndex_or_dataByte, writer_of_firstOfPair, holder_of_firstOfPair,
    writer_of_byteStartTime, writer_of_bitStartTime, writer_of_faulted, rfl, rfl, rfl, rfl⟩

end Sys2Proof.Machine
end

section
/-! PROOFS. 10_state.md R31, R27, R38: what every step keeps, and what it reads. -/

namespace Sys2Proof.Machine

variable {w : Widths}

/-- Settles O38: only a presented reset writes the configuration, and a step presents nothing new. -/
theorem theConfigurationIsFixedPerSession : Obligations.TheConfigurationIsFixedPerSession := by
  intro w s t h
  cases stepped_of_step h with
  | waits => exact ⟨.inl rfl, id⟩
  | resets c rest hs =>
    refine ⟨.inr ⟨c, rest, hs, rfl⟩, fun ⟨_, still⟩ => ?_⟩
    rw [hs] at still
    exact ⟨still (.reset c) (by simp), fun y hy => still y (List.mem_cons_of_mem _ hy)⟩
  | takes x rest hs =>
    refine ⟨.inl rfl, fun ⟨now, still⟩ => ⟨now, fun y hy => still y ?_⟩⟩
    rw [hs]
    exact List.mem_cons_of_mem _ hy

/-- Settles O39: in a fault a token selects FHOLD; outside one only NORATE sets `faulted`. -/
theorem theFaultIsHeldUntilReset : Obligations.TheFaultIsHeldUntilReset := by
  refine ⟨fun w s t x rest hs hf h => ?_, fun w s t h hf ht => ?_, fun w s t h hf ht => ?_⟩
  · rw [step_of_token hs, next_mk_inj, tokenInstr_of_faulted hf] at h
    subst h
    exact ⟨rfl, List.append_nil _, rfl⟩
  · cases stepped_of_step h with
    | waits => simp [hf] at ht
    | resets c rest hs => exact ⟨c, rest, hs⟩
    | takes x rest hs => simp [tokenInstr_of_faulted hf, fieldsAfter, hf] at ht
  · cases stepped_of_step h with
    | waits => simp [hf] at ht
    | resets c rest hs => simp [fieldsAfter, resetFields, DecoderState.reset] at ht
    | takes x rest hs =>
      have changed : (fieldsAfter (tokenInstr s.st s.cfg x) s.st x s.freeCount).faulted ≠ s.st.faulted := by
        simpa [hf] using ht
      obtain hi | ⟨f, k, hi⟩ := writer_of_faulted changed
      · exact ⟨x, rest, hs, ((tokenInstr_eq_norate_iff ..).1 hi).2, by simp [hi, raisedAfter]⟩
      · exact absurd hi (tokenInstr_ne_reset _ _ _ f k)

/-- Settles O43: both states select the same operation, whose fields and events depend on no more. -/
theorem aStepReadsOnlyStateConfigurationAndToken : Obligations.AStepReadsOnlyStateConfigurationAndToken := by
  intro w s t s' t' x r r' hst hcfg hs ht hs' ht'
  rw [step_of_token hs, next_mk_inj] at hs'
  rw [step_of_token ht, ← hst, ← hcfg, next_mk_inj] at ht'
  subst hs' ht'
  refine ⟨?_, rfl, eventsOf (tokenInstr s.st s.cfg x) s.st x, rfl, by simp [hst]⟩
  simp only [StateAt.after_st, StateAt.latch_token, ← hst]
  exact fieldsAfter_tokenInstr_free s.cfg x s.freeCount t.freeCount

end Sys2Proof.Machine
end

section
/-! PROOFS. 10_state.md R29, R36: the exact midpoints, and the values of the reset state. -/

namespace Sys2Proof.Machine

/-- A doubled comparison is the comparison with the rational midpoint. -/
theorem double_lt_iff_lt_midpoint (n a b : Nat) : 2 * n < a + b ↔ (n : ℚ) < ((a : ℚ) + (b : ℚ)) / 2 := by
  rw [lt_div_iff₀ two_pos, mul_comm]
  exact_mod_cast Iff.rfl

/-- Settles O1: nothing wraps (the sums as natural numbers), so the doubled comparisons are those of the midpoints. -/
theorem midpointComparisonsAreExact : Obligations.MidpointComparisonsAreExact := by
  refine ⟨fun w c us => ⟨smSum_toNat c, mlSum_toNat c, us2_toNat us, ?_, ?_⟩, by decide, by decide⟩
  · rw [BitVec.lt_def, us2_toNat, smSum_toNat, double_lt_iff_lt_midpoint]
  · rw [BitVec.lt_def, us2_toNat, mlSum_toNat, double_lt_iff_lt_midpoint]

/-- Settles O35: each value is the one written in `DecoderState.reset`. -/
theorem resetStateValues : Obligations.ResetStateValues := ⟨rfl, rfl, rfl, rfl, rfl⟩

end Sys2Proof.Machine
end

section
/-! PROOFS. Runs over presented tokens, and a whole frame (20_memory.md R44, 42_bit_states.md R93, R104). -/

namespace Sys2Proof.Machine

variable {w : Widths}

/-- A run may be cut after its first steps. -/
theorem run_add_of_next {M : Host.Core} {s s' : M.State} {m : Nat} (h : M.run m s = .next s') (n : Nat) :
    M.run (m + n) s = M.run n s' := by
  induction m generalizing s with
  | zero => cases h; rw [Nat.zero_add]
  | succ m ih =>
    rw [Nat.succ_add]
    simp only [Host.Core.run] at h ⊢
    cases hs : M.step s with
    | next t => rw [hs] at h; exact ih h
    | fault r => rw [hs] at h; cases h
    | refused r => rw [hs] at h; cases h

theorem run_succ_of_step {s t : State} (h : step s = .next t) (n : Nat) :
    Host.Core.run Sys2Proof.core (n + 1) s = Host.Core.run Sys2Proof.core n t := by
  have hstep : Sys2Proof.core.step s = .next t := h
  simp only [Host.Core.run, hstep]

theorem run_two_of_tokens {s : StateAt w} {x y : Token w} {rest : List (Stimulus w)} {i j : Instr}
    (hs : s.stimuli = .token x :: .token y :: rest) (hi : tokenInstr s.st s.cfg x = i)
    (hj : tokenInstr (fieldsAfter i s.st x s.freeCount) s.cfg y = j) :
    Host.Core.run Sys2Proof.core 2 ⟨w, s⟩ =
      .next ⟨w, (((s.latch (.token x) (.token y :: rest)).after i).latch (.token y) rest).after j⟩ := by
  subst hi hj
  exact (run_succ_of_step (step_of_token hs) 1).trans (run_succ_of_step (step_of_token rfl) 0)

/-- R64: outside a fault a token with a sample rate selects the row of its class. -/
theorem tokenInstr_of_class {d : DecoderState w} {c : ThresholdConfig w} {x : Token w} {p : PulseType}
    (hf : d.faulted = false) (hx : x.rateOk = true) (hp : classify c x.us = p) :
    tokenInstr d c x = rowOf d.fsmState d.firstOfPair (geMin c x.us) p := by
  simp [tokenInstr, hf, hx, hp]

/-- R80, R84: a Long and then a Medium in `WaitMarkFirst` start a byte. -/
theorem run_two_of_marker {s : StateAt w} {l m : Token w} {rest : List (Stimulus w)} (hfsm : s.st.fsmState = .waitMarkFirst)
    (hf : s.FaultFree) (hs : s.stimuli = .token l :: .token m :: rest) (hl : l.rateOk = true) (hm : m.rateOk = true)
    (hlong : classify s.cfg l.us = .long) (hmedium : classify s.cfg m.us = .medium) :
    Host.Core.run Sys2Proof.core 2 ⟨w, s⟩ = .next ⟨w, { s with
      st := { s.st with fsmState := .readBitsFirst, bitIndex := 0#3, dataByte := 0x00#8, byteStartTime := l.start }
      rst := false, token := m, stimuli := rest, raised := none
      events := s.events ++ [⟨.pulse .long, l.start, l.stop⟩, ⟨.pulse .medium, m.start, m.stop⟩,
        ⟨.marker .byteStart, l.start, m.stop⟩] }⟩ := by
  have hi : tokenInstr s.st s.cfg l = .wm1L s.st.firstOfPair.code (geMin s.cfg l.us) := by
    rw [tokenInstr_of_class hf hl hlong, hfsm]; rfl
  rw [run_two_of_tokens hs hi (tokenInstr_of_class hf hm hmedium)]
  simp [StateAt.after, rowOf, fieldsAfter, eventsOf, raisedAfter, freeCountAfter]

/-- R93, R44: the class of the first pulse of the pair that encodes `b`, and of the second pulse for the other bit. -/
def firstClass (b : Bool) : PulseType := if b then .medium else .short

/-- R106, R93: the events of a pair that encodes `b`, its pulses' own first. -/
def bitPairEvents (b : Bool) (d : DecoderState w) (x y : Token w) : List (Event w) :=
  ⟨.pulse (firstClass b), x.start, x.stop⟩ :: ⟨.pulse (firstClass !b), y.start, y.stop⟩ ::
    pairEvents b { d with bitStartTime := x.start } y

/-- R90, R91, R95, R96: everything the two pulses of a pair that encodes `b` do, from `ReadBitsFirst`. -/
def StateAt.afterPair (s : StateAt w) (b : Bool) (x y : Token w) (rest : List (Stimulus w)) : StateAt w :=
  { s with
    st := { s.st with bitStartTime := x.start }.accum b
    rst := false, token := y, stimuli := rest, raised := none
    events := s.events ++ bitPairEvents b s.st x y }

theorem run_two_of_pair {s : StateAt w} {b : Bool} {x y : Token w} {rest : List (Stimulus w)}
    (hfsm : s.st.fsmState = .readBitsFirst) (hf : s.FaultFree) (hp : IsBitPair s.cfg b x y)
    (hs : s.stimuli = .token x :: .token y :: rest) :
    Host.Core.run Sys2Proof.core 2 ⟨w, s⟩ = .next ⟨w, s.afterPair b x y rest⟩ := by
  obtain ⟨hx, hy, hfirst, hsecond⟩ := hp
  have hi : tokenInstr s.st s.cfg x = rowOf .readBitsFirst s.st.firstOfPair (geMin s.cfg x.us) (firstClass b) := by
    rw [tokenInstr_of_class hf hx hfirst, hfsm]; rfl
  rw [StateAt.afterPair, bitPairEvents, List.append_cons]
  cases b with
  | false => exact run_two_of_tokens hs hi (tokenInstr_of_class hf hy hsecond)
  | true => exact run_two_of_tokens hs hi (tokenInstr_of_class hf hy hsecond)

/-! ### The byte and the output while a frame is read -/

/-- The low `n` bits of a byte, the others 0. -/
def lowBits (v : Byte) (n : Nat) : Byte := (v.setWidth n).setWidth 8

theorem getLsbD_lowBits (v : Byte) (n k : Nat) : (lowBits v n).getLsbD k = (decide (k < n) && v.getLsbD k) := by
  by_cases hk : k < 8
  · simp [lowBits, hk]
  · simp [lowBits, hk, BitVec.getLsbD_of_ge v k (by omega)]

theorem lowBits_zero (v : Byte) : lowBits v 0 = 0x00#8 := BitVec.eq_of_getLsbD_eq fun k _ => by simp [getLsbD_lowBits]

theorem lowBits_eight (v : Byte) : lowBits v 8 = v := by simp [lowBits]

/-- R104: the next bit of `v` extends its low bits by one. -/
theorem lowBits_or_bitAt (v : Byte) {n : Nat} (hn : n < 8) :
    lowBits v n ||| bitAt (v.getLsbD n) (BitVec.ofNat 3 n) = lowBits v (n + 1) := by
  have hi : (BitVec.ofNat 3 n).toNat = n := by rw [BitVec.toNat_ofNat]; omega
  refine BitVec.eq_of_getLsbD_eq fun k _ => ?_
  rw [BitVec.getLsbD_or, getLsbD_bitAt, getLsbD_lowBits, getLsbD_lowBits, hi]
  obtain hk | rfl | hk := Nat.lt_trichotomy k n
  · simp [hk, hk.ne, Nat.lt_succ_of_lt hk]
  · simp
  · simp [hk.ne', show ¬ k < n by omega, show ¬ k < n + 1 by omega]

/-- Of the eight positions of `bit_index`, 7 alone is the last. -/
theorem ofNat_eq_seven_iff {n : Nat} (hn : n < 8) : BitVec.ofNat 3 n = 7#3 ↔ n = 7 := by
  rw [← BitVec.toNat_inj, BitVec.toNat_ofNat, BitVec.toNat_ofNat]; omega

section
variable (l m : Token w) (pairs : Fin 8 → Token w × Token w) (v : Byte)

/-- R113: the Bit events of a frame that encodes `v`. -/
def bitEvents : List (Event w) := List.ofFn fun k : Fin 8 => ⟨.bit (v.getLsbD k), (pairs k).1.start, (pairs k).2.stop⟩

/-- R93: the Byte and Ascii events of a frame that encodes `v`. -/
def byteEvents : List (Event w) := [⟨.byte v, l.start, (pairs 7).2.stop⟩, ⟨.ascii (asciiOf v), l.start, (pairs 7).2.stop⟩]

/-- What the marker and the first `n` pairs of a frame put out: its Marker, `n` Bit events, after the eighth pair the Byte and
Ascii events, and one Pulse event a pulse. -/
structure FrameOutput (n : Nat) (new : List (Event w)) : Prop where
  others : new.filter (fun e => e.body.kind ≠ .pulse) =
    [⟨.marker .byteStart, l.start, m.stop⟩] ++ (bitEvents pairs v).take n ++ if n = 8 then byteEvents l pairs v else []
  pulses : (new.filter (fun e => e.body.kind = .pulse)).length = 2 + 2 * n

/-- The block after the marker and the first `n` pairs of a frame presented in the state `s`, with `rest` presented after it. -/
structure FrameRead (rest : List (Stimulus w)) (s : StateAt w) (n : Nat) (t : StateAt w) : Prop where
  fsm       : t.st.fsmState = if n = 8 then .waitMarkFirst else .readBitsFirst
  index     : t.st.bitIndex = BitVec.ofNat 3 n
  data      : t.st.dataByte = lowBits v n
  first     : 0 < n → t.st.firstOfPair = .none
  byteStart : t.st.byteStartTime = l.start
  fault     : t.FaultFree
  cfg       : t.cfg = s.cfg
  stimuli   : t.stimuli = ((List.ofFn pairs).drop n).flatMap (fun p => [.token p.1, .token p.2]) ++ rest
  events    : ∃ new, t.events = s.events ++ new ∧ FrameOutput l m pairs v n new

variable {l m pairs v} {rest : List (Stimulus w)} {s t : StateAt w} {n : Nat}

theorem bitEvents_take_succ (hn : n < 8) :
    (bitEvents pairs v).take (n + 1) =
      (bitEvents pairs v).take n ++ [⟨.bit (v.getLsbD n), (pairs ⟨n, hn⟩).1.start, (pairs ⟨n, hn⟩).2.stop⟩] := by
  rw [List.take_succ_eq_append_getElem (by simpa [bitEvents] using hn)]
  simp only [bitEvents, List.getElem_ofFn]

/-- A pair's events extend the output of the frame. -/
theorem FrameOutput.pair {new : List (Event w)} {d : DecoderState w} (h : FrameOutput l m pairs v n new) (hn : n < 8)
    (hi : d.bitIndex = BitVec.ofNat 3 n) (hd : d.dataByte = lowBits v n) (hb : d.byteStartTime = l.start) :
    FrameOutput l m pairs v (n + 1) (new ++ bitPairEvents (v.getLsbD n) d (pairs ⟨n, hn⟩).1 (pairs ⟨n, hn⟩).2) := by
  obtain ⟨others, pulses⟩ := h
  by_cases hlast : n = 7
  · subst hlast
    have hv : lowBits v 7 ||| bitAt v[7] 7#3 = v := (lowBits_or_bitAt v hn).trans (lowBits_eight v)
    constructor
    · rw [List.filter_append, others, bitEvents_take_succ hn]
      simp [bitPairEvents, pairEvents, EventBody.kind, DecoderState.accum, byteEvents, hi, hd, hb, hv]
    · rw [List.filter_append, List.length_append, pulses]
      simp [bitPairEvents, pairEvents, EventBody.kind, hi]
  · have hne : d.bitIndex ≠ 7#3 := by rwa [hi, ne_eq, ofNat_eq_seven_iff hn]
    constructor
    · rw [List.filter_append, others, bitEvents_take_succ hn]
      simp [bitPairEvents, pairEvents, EventBody.kind, hne, hlast, hn.ne]
    · rw [List.filter_append, List.length_append, pulses]
      simp [bitPairEvents, pairEvents, EventBody.kind, hne]
      omega

/-- The next pair of a frame. -/
theorem FrameRead.pair (h : FrameRead l m pairs v rest s n t) (hn : n < 8)
    (hp : IsBitPair s.cfg (v.getLsbD n) (pairs ⟨n, hn⟩).1 (pairs ⟨n, hn⟩).2) :
    ∃ t', Host.Core.run Sys2Proof.core 2 ⟨w, t⟩ = .next ⟨w, t'⟩ ∧ FrameRead l m pairs v rest s (n + 1) t' := by
  obtain ⟨fsm, index, data, first, byteStart, fault, cfg, stimuli, new, events, output⟩ := h
  rw [if_neg hn.ne] at fsm
  rw [List.drop_eq_getElem_cons (by simpa using hn), List.getElem_ofFn, List.flatMap_cons] at stimuli
  refine ⟨_, run_two_of_pair fsm fault (cfg ▸ hp) stimuli, ?_, ?_, ?_, fun _ => rfl, byteStart, fault, cfg, rfl, ?_⟩
  · show (if t.st.bitIndex = 7#3 then _ else _) = _
    simp [index, ofNat_eq_seven_iff hn]
  · show t.st.bitIndex + 1#3 = _
    rw [index, BitVec.ofNat_add]
  · show t.st.dataByte ||| bitAt _ t.st.bitIndex = _
    rw [data, index, lowBits_or_bitAt v hn]
  · refine ⟨_, ?_, output.pair hn index data byteStart⟩
    rw [StateAt.afterPair, events, List.append_assoc]

/-- The marker of a frame. -/
theorem frameRead_of_marker (hfsm : s.st.fsmState = .waitMarkFirst) (hf : s.FaultFree) (hl : l.rateOk = true)
    (hm : m.rateOk = true) (hlong : classify s.cfg l.us = .long) (hmedium : classify s.cfg m.us = .medium)
    (hs : s.stimuli = .token l :: .token m ::
      ((List.ofFn pairs).flatMap (fun p => [.token p.1, .token p.2]) ++ rest)) :
    ∃ t, Host.Core.run Sys2Proof.core 2 ⟨w, s⟩ = .next ⟨w, t⟩ ∧ FrameRead l m pairs v rest s 0 t :=
  ⟨_, run_two_of_marker hfsm hf hs hl hm hlong hmedium, rfl, rfl, (lowBits_zero v).symm, fun h => absurd h (Nat.lt_irrefl 0),
    rfl, hf, rfl, rfl, _, rfl, by simp [EventBody.kind], by simp [EventBody.kind]⟩

/-- The first `n` pairs of a frame, one after the other. -/
theorem FrameRead.firstPairs (h : FrameRead l m pairs v rest s 0 t)
    (hp : ∀ k : Fin 8, IsBitPair s.cfg (v.getLsbD k) (pairs k).1 (pairs k).2) (hn : n ≤ 8) :
    ∃ t', Host.Core.run Sys2Proof.core (2 * n) ⟨w, t⟩ = .next ⟨w, t'⟩ ∧ FrameRead l m pairs v rest s n t' := by
  induction n with
  | zero => exact ⟨t, rfl, h⟩
  | succ n ih =>
    obtain ⟨t', hrun, hread⟩ := ih (by omega)
    obtain ⟨t'', hrun', hread'⟩ := hread.pair hn (hp ⟨n, hn⟩)
    exact ⟨t'', (run_add_of_next hrun 2).trans hrun', hread'⟩

end

/-- Settles O46: by induction on the pairs already read; their bits are the low bits of the byte. -/
theorem aFrameDecodesToItsByte : Obligations.AFrameDecodesToItsByte := by
  intro w s l m pairs v rest hfsm hf _ hl hm hlong hmedium hp hs
  obtain ⟨t₀, hmarker, hread⟩ := frameRead_of_marker (v := v) hfsm hf hl hm hlong hmedium hs
  obtain ⟨t, hrun, fsm, index, data, first, -, fault, cfg, stimuli, new, events, others, pulses⟩ := hread.firstPairs hp le_rfl
  refine ⟨t, new, (run_add_of_next hmarker 16).trans hrun, ?_, cfg, fault, fsm, index, data.trans (lowBits_eight v),
    first (by decide), events, ?_, pulses⟩
  · rw [stimuli, List.drop_of_length_le (by simp), List.flatMap_nil, List.nil_append]
  · rw [others, List.take_of_length_le (by simp [bitEvents]), if_pos rfl]
    rfl

end Sys2Proof.Machine
end

section
/-! PROOFS. What a cycle of the ports does, by what it accepts (70_reset_and_hazards.md R151; 20_memory.md R51). -/

namespace Sys2Proof.Machine

variable {w : Widths} {b : StateAt w} {d : Nat} {started : Bool} {i : PortIn w}

/-- A cycle that accepts a stimulus without breaking its session runs the block on it. -/
theorem PortState.cycle_of_run {x : Stimulus w} {t : State}
    (ha : PortState.accepts ⟨⟨w, b⟩, d, started⟩ i = some x)
    (hb : ¬ PortState.breaksSession ⟨⟨w, b⟩, d, started⟩ i = true)
    (ht : runLatched ⟨w, StateAt.latch { b with cfg := i.cfg } x b.stimuli⟩ = .next t) :
    PortState.cycle ⟨⟨w, b⟩, d, started⟩ i = .next ⟨t, PortState.deliveredAfter ⟨⟨w, b⟩, d, started⟩ i, !i.rst⟩ := by
  simp only [PortState.cycle, ha, if_neg hb, PortState.wired, ht]

/-- R143 (1): with `rst` = 1 the block is reset and no session is under way. -/
theorem PortState.cycle_of_rst (h : i.rst = true) :
    PortState.cycle ⟨⟨w, b⟩, d, started⟩ i =
      .next ⟨⟨w, (b.latch (.reset i.cfg) b.stimuli).after (.reset b.st.faulted b.token.rateOk)⟩,
        PortState.deliveredAfter ⟨⟨w, b⟩, d, started⟩ i, false⟩ := by
  rw [PortState.cycle_of_run (x := .reset i.cfg) (by simp [PortState.accepts_mk, h]) (by simp [PortState.breaksSession_mk, h])
    ((runLatched_eq _).trans (exec_eq _ _)), h]
  rfl

/-- R51: the first token of a session, and a later one under an unchanged configuration, is a step under the inputs' one. -/
theorem PortState.cycle_of_token (hr : i.rst = false) (hv : i.inValid = true) (hd : b.events.drop d = [])
    (hs : started = false ∨ i.cfg = b.cfg) :
    PortState.cycle ⟨⟨w, b⟩, d, started⟩ i =
      .next ⟨⟨w, (StateAt.latch { b with cfg := i.cfg } (.token i.token) b.stimuli).after (tokenInstr b.st i.cfg i.token)⟩,
        PortState.deliveredAfter ⟨⟨w, b⟩, d, started⟩ i, true⟩ := by
  rw [PortState.cycle_of_run (x := .token i.token) (by simp [PortState.accepts_mk, hr, hv, hd])
    (by rcases hs with h | h <;> simp [PortState.breaksSession_mk, h]) ((runLatched_eq _).trans (exec_eq _ _)), hr]
  rfl

/-- U2: a later token under another configuration. -/
theorem PortState.cycle_of_change (hr : i.rst = false) (hv : i.inValid = true) (hd : b.events.drop d = [])
    (hs : started = true) (hc : i.cfg ≠ b.cfg) :
    PortState.cycle ⟨⟨w, b⟩, d, started⟩ i = .refused .configurationChanged := by
  have ha : PortState.accepts ⟨⟨w, b⟩, d, started⟩ i = some (.token i.token) := by simp [PortState.accepts_mk, hr, hv, hd]
  simp only [PortState.cycle, ha, if_pos ((PortState.breaksSession_mk b d started i).2 ⟨hr, hs, hc⟩)]

/-- A cycle without a reset, and without a token that can be taken, leaves the block alone. -/
theorem PortState.cycle_of_idle (hr : i.rst = false) (hn : ¬ (i.inValid = true ∧ b.events.drop d = [])) :
    PortState.cycle ⟨⟨w, b⟩, d, started⟩ i =
      .next ⟨⟨w, b⟩, PortState.deliveredAfter ⟨⟨w, b⟩, d, started⟩ i, started⟩ := by
  have ha : PortState.accepts ⟨⟨w, b⟩, d, started⟩ i = none := by simpa [PortState.accepts_mk, hr] using hn
  simp only [PortState.cycle, ha]

/-- Settles O49: of the four things a cycle can do, only a token under a changed configuration is refused. -/
theorem aMidSessionChangeIsRefused : Obligations.AMidSessionChangeIsRefused := by
  intro w b d started i r
  constructor
  · intro h
    cases hr : i.rst with
    | true => rw [PortState.cycle_of_rst hr] at h; cases h
    | false =>
      by_cases hn : i.inValid = true ∧ b.events.drop d = []
      · obtain ⟨hv, hd⟩ := hn
        by_cases hs : started = false ∨ i.cfg = b.cfg
        · rw [PortState.cycle_of_token hr hv hd hs] at h; cases h
        · obtain ⟨hstarted, hc⟩ : started = true ∧ i.cfg ≠ b.cfg := by simpa using hs
          rw [PortState.cycle_of_change hr hv hd hstarted hc] at h
          cases h
          exact ⟨rfl, rfl, hv, hd, hstarted, hc⟩
      · rw [PortState.cycle_of_idle hr hn] at h; cases h
  · rintro ⟨rfl, hr, hv, hd, hs, hc⟩
    exact PortState.cycle_of_change hr hv hd hs hc

/-- Settles O50: no event waits after the reset, so the next cycle takes the token; only the configuration tells the two reset
steps apart, and the second cycle writes it. -/
theorem aConfigurationPresentedAfterResetIsUsed : Obligations.AConfigurationPresentedAfterResetIsUsed := by
  intro w b d started i j hd hi hj hv
  have hkept : PortState.deliveredAfter ⟨⟨w, b⟩, d, started⟩ i = d := by simp [PortState.deliveredAfter_mk, hd]
  have hnone : ((b.latch (.reset i.cfg) b.stimuli).after (.reset b.st.faulted b.token.rateOk)).events.drop d = [] := by
    simpa [eventsOf] using hd
  refine ⟨_, _, d, _, (PortState.cycle_of_rst hi).trans (by rw [hkept]),
    PortState.cycle_of_token hj hv hnone (.inl rfl), rfl, ?_⟩
  exact (run_succ_of_step (step_of_reset rfl) 1).trans (run_succ_of_step (step_of_token rfl) 0)

end Sys2Proof.Machine
end

section
/-! PROOFS. The decoder and the encoder are inverse (30_encoding.md R62 to R64, R67). -/

namespace Sys2Proof

open Laws

/-- The decoder reads back every word the encoder writes. -/
theorem decode_encode : ∀ i : Instr, decode (encode i) = .ok i
  | .wm1S f g => RoundTrip.wm1S f g
  | .wm1M f g => RoundTrip.wm1M f g
  | .wm1L f g => RoundTrip.wm1L f g
  | .wm2S f g => RoundTrip.wm2S f g
  | .wm2M f g => RoundTrip.wm2M f g
  | .wm2L f g => RoundTrip.wm2L f g
  | .wm3S f g => RoundTrip.wm3S f g
  | .wm3M f g => RoundTrip.wm3M f g
  | .wm3L f g => RoundTrip.wm3L f g
  | .rb1S f g => RoundTrip.rb1S f g
  | .rb1M f g => RoundTrip.rb1M f g
  | .rb1L f g => RoundTrip.rb1L f g
  | .rb2SS g => RoundTrip.rb2SS g
  | .rb2SM g => RoundTrip.rb2SM g
  | .rb2SL g => RoundTrip.rb2SL g
  | .rb2MS g => RoundTrip.rb2MS g
  | .rb2MM g => RoundTrip.rb2MM g
  | .rb2ML g => RoundTrip.rb2ML g
  | .rb2XS l g => RoundTrip.rb2XS l g
  | .rb2XM l g => RoundTrip.rb2XM l g
  | .rb2XL l g => RoundTrip.rb2XL l g
  | .glitchLo st f => RoundTrip.glitchLo st f
  | .glitchHi st f => RoundTrip.glitchHi st f
  | .reset f k => RoundTrip.reset f k
  | .fhold k => RoundTrip.fhold k
  | .norate => RoundTrip.norate

/-- On a word that a row selects, the mask's bits are the row's codes, and the row's operation carries the others: group by
group of R64, it is written back as that word. -/
theorem encode_build_of_selects : ∀ r ∈ dwRows, ∀ w, r.selects w = true → encode (r.build w) = .dw w := by
  simp only [dwRows, List.forall_mem_append]
  refine ⟨⟨⟨?_, ?_⟩, ?_⟩, ?_⟩ <;> decide

theorem encode_of_decodeDw {w : BitVec 8} {i : Instr} (h : decodeDw w = .ok i) : encode i = .dw w := by
  unfold decodeDw at h
  split at h
  next r hfind =>
    cases h
    exact encode_build_of_selects r (List.mem_of_find?_eq_some hfind) w (List.find?_some (p := (DwRow.selects · w)) hfind)
  next => cases h

/-- R63: a control word is its three bits. -/
theorem exists_cwWord_eq : ∀ w : BitVec 3, ∃ r f k, cwWord r f k = w := by decide

theorem encode_of_decodeCtl {w : BitVec 3} {i : Instr} (h : decodeCtl w = .ok i) : encode i = .ctl w := by
  obtain ⟨r, f, k, rfl⟩ := exists_cwWord_eq w
  rw [Machine.decodeCtl_of_bits] at h
  cases r with
  | true => cases h; rfl
  | false =>
    cases f with
    | true => cases h; rfl
    | false => cases k <;> cases h; rfl

/-- Settles O7: every operation's word decodes to it, and the operation a word decodes to is written back as that word. -/
theorem decodeIsTheInverseOfEncode : Obligations.DecodeIsTheInverseOfEncode := by
  refine fun w i => ⟨fun h => ?_, fun h => h ▸ decode_encode i⟩
  cases w with
  | dw w => exact encode_of_decodeDw h
  | ctl w => exact encode_of_decodeCtl h

/-- Settles O9: decoding on the codes. -/
theorem dispatchFollowsTheTransitionTable : Obligations.DispatchFollowsTheTransitionTable :=
  Machine.decodeDw_of_codes

/-- Settles O10: each operation named there encodes to its word; no row selects `0xA5`. -/
theorem writtenWordsDecode : Obligations.WrittenWordsDecode := by
  refine ⟨?_, ?_, ?_, ?_, ?_, ?_, by decide, ?_⟩ <;> exact (decodeIsTheInverseOfEncode _ _).2 rfl

end Sys2Proof
end

section
/-! PROOFS. How many rows of the operation map select a dispatch word (30_encoding.md R64, R66 a). -/

namespace Sys2Proof

/-- The number of rows in a list that select a word. -/
def selectors (rows : List DwRow) (w : BitVec 8) : Nat := (rows.filter (·.selects w)).length

theorem selectors_append (a b : List DwRow) (w : BitVec 8) : selectors (a ++ b) w = selectors a w + selectors b w := by
  simp [selectors]

theorem selectors_markFirstSecond : ∀ w, selectors dwRowsMarkFirstSecond w =
    if dwState w ≤ 1#3 ∧ dwPtype w ≠ PulseType.invalid.code then 1 else 0 := by decide

theorem selectors_markThirdBitsFirst : ∀ w, selectors dwRowsMarkThirdBitsFirst w =
    if 2#3 ≤ dwState w ∧ dwState w ≤ 3#3 ∧ dwPtype w ≠ PulseType.invalid.code then 1 else 0 := by decide

theorem selectors_bitsSecond : ∀ w, selectors dwRowsBitsSecond w =
    if dwState w = 4#3 ∧ dwPtype w ≠ PulseType.invalid.code then 1 else 0 := by decide

theorem selectors_glitch : ∀ w, selectors dwRowsGlitch w =
    if dwPtype w = PulseType.invalid.code then 1 else 0 := by decide

/-- Settles O8: each group of rows selects, once, the words of its own states with a valid pulse, or those of an invalid one. -/
theorem rowsAreDisjointAndCover : Obligations.RowsAreDisjointAndCover := by
  intro w
  change selectors dwRows w = _
  simp only [dwRows, selectors_append, selectors_markFirstSecond, selectors_markThirdBitsFirst, selectors_bitsSecond,
    selectors_glitch]
  generalize dwState w = st
  generalize dwPtype w = p
  revert st p
  decide

end Sys2Proof
end

section
/-! PROOFS. Only producible words are fetched (30_encoding.md R66, 10_state.md R33 a). -/

namespace Sys2Proof.Machine

/-- R72: a valid pulse is not below the window. -/
theorem geMin_of_classify_ne_invalid {w : Nat} {c : Thresholds w} {us : BitVec w} (h : classify c us ≠ .invalid) :
    geMin c us = true := by
  cases hlo : cLo c us with
  | true => exact absurd (by simp [classify, hlo]) h
  | false => simp [geMin, hlo]

/-- R66 (a), (b): in any pulse's word, the codes of a named state and of a first pulse held exactly in `ReadBitsSecond`. -/
theorem producibleGlitch_codes {f : FsmState} {p : FirstOfPair} (hp : p = .none ↔ f ≠ .readBitsSecond) :
    producibleGlitch f.code p.code = true := by
  cases f with
  | readBitsSecond =>
    cases p with
    | none => exact absurd rfl (hp.1 rfl)
    | _ => rfl
  | _ =>
    obtain rfl := hp.2 (by decide)
    rfl

/-- R66 (c), (d): with a first pulse held exactly in `ReadBitsSecond`, and `ge_min` = 1 for a valid pulse, the row of the
operation map is a producible one. -/
theorem rowOf_wellFormed {f : FsmState} {p : FirstOfPair} {g : Bool} {t : PulseType}
    (hp : p = .none ↔ f ≠ .readBitsSecond) (hg : t ≠ .invalid → g = true) : (rowOf f p g t).wellFormed = true := by
  cases t with
  | invalid => cases g <;> exact producibleGlitch_codes hp
  | _ =>
    obtain rfl := hg (by decide)
    cases f with
    | readBitsSecond =>
      cases p with
      | none => exact absurd rfl (hp.1 rfl)
      | _ => rfl
    | _ =>
      obtain rfl := hp.2 (by decide)
      rfl

/-- Settles O11: a control word is always producible, and the classifier gives `ge_min` = 1 with a valid pulse. -/
theorem onlyProducibleWordsAreFetched : Obligations.OnlyProducibleWordsAreFetched := by
  intro w s i hfirst h
  rw [StateAt.fetch_eq] at h
  cases h
  split
  · rfl
  split
  · rfl
  split
  · exact rowOf_wellFormed hfirst geMin_of_classify_ne_invalid
  · rfl

end Sys2Proof.Machine
end

section
/-! PROOFS. The layouts of token and event words, for every width (30_encoding.md R56 to R61). -/

namespace Sys2Proof.Machine

/-! ### What both words end in: two time stamps -/

section
variable {n t : Nat} (x : BitVec n) (a b : BitVec t)

theorem extractLsb'_above_times (k len : Nat) : (x ++ a ++ b).extractLsb' (2 * t + k) len = x.extractLsb' k len := by
  rw [BitVec.extractLsb'_append_eq_of_le (by omega), BitVec.extractLsb'_append_eq_of_le (by omega)]
  congr 1
  omega

theorem extractLsb'_start : (x ++ a ++ b).extractLsb' t t = a := by
  rw [BitVec.extractLsb'_append_eq_of_le le_rfl, Nat.sub_self, BitVec.extractLsb'_append_eq_right]

end

/-- R58: the four fields of an event, in their places. -/
theorem Event.word_fields {w : Widths} (e : Event w) :
    e.word.extractLsb' (2 * w.W_T + 8) 3 = e.body.kind.code ∧ e.word.extractLsb' (2 * w.W_T) 8 = e.body.payload ∧
    e.word.extractLsb' w.W_T w.W_T = e.start ∧ e.word.extractLsb' 0 w.W_T = e.stop :=
  ⟨(extractLsb'_above_times _ _ _ 8 3).trans BitVec.extractLsb'_append_eq_left,
    (extractLsb'_above_times _ _ _ 0 8).trans BitVec.extractLsb'_append_eq_right,
    extractLsb'_start _ _ _, BitVec.extractLsb'_append_eq_right⟩

/-- Settles O12: the places by `Event.word_fields`, the codes kind by kind. -/
theorem eventWordLayout : Obligations.EventWordLayout := by
  refine ⟨fun w e => e.word_fields, fun b => ?_⟩
  cases b with
  | pulse p => cases p <;> exact ⟨rfl, rfl⟩
  | marker l => cases l <;> exact ⟨rfl, rfl⟩
  | bit v => cases v <;> exact ⟨rfl, rfl⟩
  | byte v => exact ⟨rfl, rfl⟩
  | ascii c => exact ⟨rfl, rfl⟩
  | error l => cases l <;> exact ⟨rfl, rfl⟩

/-- One bit of a word, as a word of width 1. -/
theorem ofBool_getLsbD {n : Nat} (v : BitVec n) (k : Nat) : BitVec.ofBool (v.getLsbD k) = v.extractLsb' k 1 := by
  ext i hi
  obtain rfl : i = 0 := by omega
  simp

theorem Token.ofWord_word {w : Widths} (t : Token w) : Token.ofWord t.word = t := by
  have hrate : t.word.extractLsb' (2 * w.W_T + w.W_US) 1 = BitVec.ofBool t.rateOk :=
    (extractLsb'_above_times _ _ _ w.W_US 1).trans BitVec.extractLsb'_append_eq_left
  have hus : t.word.extractLsb' (2 * w.W_T) w.W_US = t.us :=
    (extractLsb'_above_times _ _ _ 0 w.W_US).trans BitVec.extractLsb'_append_eq_right
  have hstart : t.word.extractLsb' w.W_T w.W_T = t.start := extractLsb'_start _ _ _
  have hstop : t.word.extractLsb' 0 w.W_T = t.stop := BitVec.extractLsb'_append_eq_right
  rw [← ofBool_getLsbD, BitVec.ofBool_eq_iff_eq] at hrate
  rw [Token.ofWord, hrate, hus, hstart, hstop]

/-- Neighbouring fields of a word join into one. -/
theorem Token.word_ofWord {w : Widths} (v : BitVec (1 + w.W_US + w.W_T + w.W_T)) : (Token.ofWord v).word = v :=
  calc
    (Token.ofWord v).word
      = v.extractLsb' (2 * w.W_T + w.W_US) 1 ++ v.extractLsb' (2 * w.W_T) w.W_US ++ v.extractLsb' w.W_T w.W_T ++
          v.extractLsb' 0 w.W_T := by rw [← ofBool_getLsbD]; rfl
    _ = v.extractLsb' 0 (1 + w.W_US + w.W_T + w.W_T) := by
      rw [BitVec.extractLsb'_append_extractLsb'_eq_extractLsb' rfl,
        BitVec.extractLsb'_append_extractLsb'_eq_extractLsb' (Nat.two_mul _),
        BitVec.extractLsb'_append_extractLsb'_eq_extractLsb' (Nat.zero_add _).symm]
    _ = v := BitVec.extractLsb'_eq_self

/-- Settles O13: reading and joining the four fields, each way round. -/
theorem tokenWordRoundTrip : Obligations.TokenWordRoundTrip :=
  fun _ => ⟨Token.ofWord_word, Token.word_ofWord⟩

end Sys2Proof.Machine
end

section
/-! PROOFS. The classifier as a function on natural numbers, and what R79 says follows (40_classifier.md R70 to R79). -/

namespace Sys2Proof.Machine

section
variable {w : Nat} (c : Thresholds w) (us : BitVec w)

/-- R70, R78: first match wins, on the durations and sums as natural numbers. -/
theorem classify_eq :
    classify c us =
      if us.toNat < c.minValidUs.toNat ∨ c.maxValidUs.toNat < us.toNat then .invalid
      else if 2 * us.toNat < c.shortUs.toNat + c.mediumUs.toNat then .short
      else if 2 * us.toNat < c.mediumUs.toNat + c.longUs.toNat then .medium
      else .long := by
  simp [classify]

theorem geMin_eq_false_iff : geMin c us = false ↔ us.toNat < c.minValidUs.toNat := by
  rw [Bool.eq_false_iff, ne_eq, geMin_iff, not_le]

/-! ### One condition per outcome (R73 to R77) -/

theorem classify_eq_invalid_iff :
    classify c us = .invalid ↔ us.toNat < c.minValidUs.toNat ∨ c.maxValidUs.toNat < us.toNat := by
  rw [classify_eq]
  split_ifs <;> simp [*]

/-- R75. -/
theorem classify_eq_short_iff :
    classify c us = .short ↔
      c.minValidUs.toNat ≤ us.toNat ∧ us.toNat ≤ c.maxValidUs.toNat ∧
      2 * us.toNat < c.shortUs.toNat + c.mediumUs.toNat := by
  rw [classify_eq]
  split_ifs <;> simp <;> omega

/-- R76. -/
theorem classify_eq_medium_iff :
    classify c us = .medium ↔
      c.minValidUs.toNat ≤ us.toNat ∧ us.toNat ≤ c.maxValidUs.toNat ∧
      c.shortUs.toNat + c.mediumUs.toNat ≤ 2 * us.toNat ∧ 2 * us.toNat < c.mediumUs.toNat + c.longUs.toNat := by
  rw [classify_eq]
  split_ifs <;> simp <;> omega

/-- R77: Long is what remains after Short and Medium. -/
theorem classify_eq_long_iff :
    classify c us = .long ↔
      c.minValidUs.toNat ≤ us.toNat ∧ us.toNat ≤ c.maxValidUs.toNat ∧
      c.shortUs.toNat + c.mediumUs.toNat ≤ 2 * us.toNat ∧ c.mediumUs.toNat + c.longUs.toNat ≤ 2 * us.toNat := by
  rw [classify_eq]
  split_ifs <;> simp <;> omega

/-- R73: Invalid-low. -/
theorem invalid_low_iff : classify c us = .invalid ∧ geMin c us = false ↔ us.toNat < c.minValidUs.toNat := by
  rw [classify_eq_invalid_iff, geMin_eq_false_iff]
  exact and_iff_right_of_imp Or.inl

/-- R74: Invalid-high, which in an empty window leaves what is below it to R73. -/
theorem invalid_high_iff :
    classify c us = .invalid ∧ geMin c us = true ↔
      c.minValidUs.toNat ≤ us.toNat ∧ c.maxValidUs.toNat < us.toNat := by
  rw [classify_eq_invalid_iff, geMin_iff]
  omega

end

/-! ### The dispatch word's classifier fields (R62) -/

theorem dwWord_ptype (f : BitVec 3) (p : BitVec 2) (g : Bool) (t : BitVec 2) :
    (dwWord f p g t).extractLsb' 0 2 = t :=
  BitVec.extractLsb'_append_eq_right

theorem dwWord_geMin (f : BitVec 3) (p : BitVec 2) (g : Bool) (t : BitVec 2) :
    (dwWord f p g t).getLsbD 2 = g := by
  rw [dwWord, BitVec.getLsbD_append, BitVec.getLsbD_append]
  simp

/-- Settles O2: the doubled comparisons are those of the midpoints, and the word keeps its fields apart. -/
theorem classifyIsTheSourceFunction : Obligations.ClassifyIsTheSourceFunction := by
  refine ⟨fun w c us => ?_, fun w s => ⟨dwWord_ptype .., ?_⟩⟩
  · simp only [classify_eq, double_lt_iff_lt_midpoint]
  · rw [StateAt.dispatchWord, dwWord_geMin, Bool.eq_iff_iff, geMin_iff, decide_eq_true_iff, BitVec.le_def]

/-- Settles O3: the outcomes' conditions; under R30 the window is not empty, so what is beyond it is not below it. -/
theorem fiveOutcomesOfTheClassifier : Obligations.FiveOutcomesOfTheClassifier := by
  intro w c us
  simp only [BitVec.lt_def, BitVec.le_def, us2_toNat, smSum_toNat, mlSum_toNat]
  refine ⟨invalid_low_iff c us, invalid_high_iff c us, classify_eq_short_iff c us, classify_eq_medium_iff c us,
    classify_eq_long_iff c us, geMin_of_classify_ne_invalid, fun hlegal hinvalid => ?_⟩
  obtain ⟨hmin, hmax, -, -⟩ := hlegal
  rw [classify_eq_invalid_iff] at hinvalid
  rw [geMin_iff]
  omega

/-- R79 (c): a whole number between the midpoints lies in the window, so it is a duration. -/
theorem exists_medium_iff {w : Nat} {c : Thresholds w} (hlegal : c.Legal) :
    (∃ us : BitVec w, classify c us = .medium) ↔
      ∃ n : Nat, c.shortUs.toNat + c.mediumUs.toNat ≤ 2 * n ∧ 2 * n < c.mediumUs.toNat + c.longUs.toNat := by
  simp only [classify_eq_medium_iff]
  constructor
  · rintro ⟨us, -, -, hsm, hml⟩
    exact ⟨us.toNat, hsm, hml⟩
  · rintro ⟨n, hsm, hml⟩
    obtain ⟨hmin, -, -, hmax⟩ := hlegal
    have hn : n < 2 ^ w := by have := c.maxValidUs.isLt; omega
    refine ⟨BitVec.ofNat w n, ?_⟩
    rw [BitVec.toNat_ofNat, Nat.mod_eq_of_lt hn]
    omega

/-- Settles O4: both midpoints lie strictly inside the window. -/
theorem edgesOfTheWindowAreShortAndLong : Obligations.EdgesOfTheWindowAreShortAndLong := by
  intro w c hlegal
  have ⟨hminSm, hsmMax, hminMl, hmlMax⟩ := hlegal
  refine ⟨?_, ?_, exists_medium_iff hlegal⟩
  · rw [classify_eq_short_iff]
    omega
  · rw [classify_eq_long_iff]
    omega

/-- R79 (d): valid durations are classified in their order, whatever the order of the sums: with `ml_sum < sm_sum` there is
no Medium, and Short still comes before Long. -/
theorem classify_code_le {w : Nat} {c : Thresholds w} {a b : BitVec w} (hab : a ≤ b)
    (ha : classify c a ≠ .invalid) (hb : classify c b ≠ .invalid) : (classify c a).code ≤ (classify c b).code := by
  rw [BitVec.le_def] at hab
  rw [ne_eq, classify_eq_invalid_iff] at ha
  cases hcb : classify c b with
  | invalid => exact absurd hcb hb
  | short =>
    rw [classify_eq_short_iff] at hcb
    have hca : classify c a = .short := (classify_eq_short_iff c a).2 (by omega)
    rw [hca]
    decide
  | medium =>
    rw [classify_eq_medium_iff] at hcb
    have hca : classify c a = .short ∨ classify c a = .medium := by
      rw [classify_eq_short_iff, classify_eq_medium_iff]
      omega
    obtain hca | hca := hca <;> rw [hca] <;> decide
  | long =>
    cases hca : classify c a with
    | invalid => rw [classify_eq_invalid_iff] at hca; exact absurd hca ha
    | _ => decide

/-- Settles O5: the order of the valid outcomes, and the two kinds of Invalid at the window's two ends. -/
theorem classifierIsMonotone : Obligations.ClassifierIsMonotone := by
  intro w c a b _ hab
  refine ⟨classify_code_le hab, fun hinvalid hlow => ?_, fun ha => ?_⟩
  · have hb := (invalid_low_iff c b).1 ⟨hinvalid, hlow⟩
    exact (invalid_low_iff c a).2 (lt_of_le_of_lt hab hb)
  · exact (classify_eq_invalid_iff c b).2 (.inr (lt_of_lt_of_le ha hab))

/-- R6: eleven bits hold the default thresholds whole. -/
theorem default_thresholds_toNat {w : Nat} (hw : 11 ≤ w) :
    (Thresholds.default w).shortUs.toNat = 390 ∧ (Thresholds.default w).mediumUs.toNat = 540 ∧
    (Thresholds.default w).longUs.toNat = 700 ∧ (Thresholds.default w).minValidUs.toNat = 150 ∧
    (Thresholds.default w).maxValidUs.toNat = 1200 := by
  have hpow : 2 ^ 11 ≤ 2 ^ w := Nat.pow_le_pow_right two_pos hw
  have hold (n : Nat) (hn : n < 2 ^ 11) : (BitVec.ofNat w n).toNat = n := Nat.mod_eq_of_lt (hn.trans_le hpow)
  exact ⟨hold 390 (by decide), hold 540 (by decide), hold 700 (by decide), hold 150 (by decide), hold 1200 (by decide)⟩

/-- Settles O6: the conditions of the outcomes, at the window 150 to 1200 and the sums 930 and 1240. -/
theorem defaultRangesOfDurations : Obligations.DefaultRangesOfDurations := by
  rintro w us hw c rfl
  obtain ⟨hshort, hmedium, hlong, hmin, hmax⟩ := default_thresholds_toNat hw
  rw [invalid_low_iff, invalid_high_iff, classify_eq_short_iff, classify_eq_medium_iff, classify_eq_long_iff, hshort, hmedium,
    hlong, hmin, hmax]
  omega

end Sys2Proof.Machine
end

section
/-! PROOFS. The words of the rows that ignore the stored pulse and `ge_min` (30_encoding.md R62, R64; mask 0xE3). -/

namespace Sys2Proof

theorem decode_eq_ok_iff (x : InstrWord) (i : Instr) : decode x = .ok i ↔ encode i = x :=
  decodeIsTheInverseOfEncode x i

/-- R62: a dispatch word is its four fields. -/
theorem dwWord_fields : ∀ w : BitVec 8, dwWord (dwState w) (dwFop w) (dwGeMin w) (dwPtype w) = w := by decide

/-- The mask 0xE3 keeps the state code and the pulse type. -/
theorem and_mask_eq : ∀ w : BitVec 8, w &&& 0xE3#8 = dwWord (dwState w) 0#2 false (dwPtype w) := by decide

/-- The state code and the pulse type are read back from a dispatch word. -/
theorem dwState_dwWord : ∀ (c : BitVec 3) (f : BitVec 2) (g : Bool) (t : BitVec 2), dwState (dwWord c f g t) = c := by
  decide

theorem dwPtype_dwWord (c : BitVec 3) (f : BitVec 2) (g : Bool) (t : BitVec 2) : dwPtype (dwWord c f g t) = t :=
  Machine.dwWord_ptype c f g t

theorem and_mask_eq_iff (w : BitVec 8) (c : BitVec 3) (t : BitVec 2) :
    w &&& 0xE3#8 = dwWord c 0#2 false t ↔ ∃ f g, dwWord c f g t = w := by
  rw [and_mask_eq]
  constructor
  · intro h
    have hc : dwState w = c := by simpa only [dwState_dwWord] using congrArg dwState h
    have ht : dwPtype w = t := by simpa only [dwPtype_dwWord] using congrArg dwPtype h
    exact ⟨dwFop w, dwGeMin w, hc ▸ ht ▸ dwWord_fields w⟩
  · rintro ⟨f, g, rfl⟩
    rw [dwState_dwWord, dwPtype_dwWord]

/-- R64: the words of the state `c` and the pulse type `t`, whatever the ignored bits are, are those of its operation. -/
theorem and_mask_eq_iff_decode (c : FsmState) (t : PulseType) {op : BitVec 2 → Bool → Instr}
    (hop : ∀ f g, encode (op f g) = .dw (dwWord c.code f g t.code)) (w : BitVec 8) :
    w &&& 0xE3#8 = dwWord c.code 0#2 false t.code ↔ ∃ f g, decode (.dw w) = .ok (op f g) := by
  simp only [decode_eq_ok_iff, hop, InstrWord.dw.injEq, and_mask_eq_iff]

end Sys2Proof
end

section
/-! PROOFS. The nine operations of the marker states, and the two markers as runs (41_marker_states.md R80 to R88). -/

namespace Sys2Proof.Machine

variable {w : Widths}

/-- R64: in a named state, outside a fault, a token with a sample rate selects that state's row of its class. -/
theorem tokenInstr_of_fsmState {d : DecoderState w} {c : ThresholdConfig w} {x : Token w} {f : FsmState} {p : PulseType}
    (hfsm : d.fsmState = f) (hf : d.faulted = false) (hx : x.rateOk = true) (hp : classify c x.us = p) :
    tokenInstr d c x = rowOf f d.firstOfPair (geMin c x.us) p :=
  hfsm ▸ tokenInstr_of_class hf hx hp

theorem run_three_of_tokens {s : StateAt w} {x y z : Token w} {rest : List (Stimulus w)} {i j k : Instr}
    (hs : s.stimuli = .token x :: .token y :: .token z :: rest) (hi : tokenInstr s.st s.cfg x = i)
    (hj : tokenInstr (fieldsAfter i s.st x s.freeCount) s.cfg y = j)
    (hk : tokenInstr (fieldsAfter j (fieldsAfter i s.st x s.freeCount) y (freeCountAfter i s.freeCount)) s.cfg z = k) :
    Host.Core.run Sys2Proof.core 3 ⟨w, s⟩ =
      .next ⟨w, (((((s.latch (.token x) (.token y :: .token z :: rest)).after i).latch (.token y) (.token z :: rest)).after
        j).latch (.token z) rest).after k⟩ := by
  subst hk
  exact (run_add_of_next (run_two_of_tokens hs hi hj) 1).trans (run_succ_of_step (step_of_token rfl) 0)

/-- Settles O15: the words of WM1_L, its next state, and the only writers of `byte_start_time`. -/
theorem longOpensAMarker : Obligations.LongOpensAMarker := by
  refine ⟨and_mask_eq_iff_decode .waitMarkFirst .long fun _ _ => rfl, fun w s f g => exec_eq (.wm1L f g) s,
    fun w s t i h hne => ?_⟩
  rw [exec_eq, next_mk_inj] at h
  subst h
  exact writer_of_byteStartTime hne

/-- Settles O44: WM1_L and then WM2_M, which clears whatever an earlier error left of a byte. -/
theorem aMarkerStartsAByteWhateverWasLeft : Obligations.AMarkerStartsAByteWhateverWasLeft :=
  fun _ _ _ _ _ hfsm hf _ hs hl hm hlong hmedium => run_two_of_marker hfsm hf hs hl hm hlong hmedium

/-- Settles O45: WM1_L, WM2_L and WM3_L, of which the last alone emits a marker. -/
theorem threeLongsGiveOneEndMarker : Obligations.ThreeLongsGiveOneEndMarker := by
  intro w s a b c rest hfsm hf _ hs ha hb hc hla hlb hlc
  rw [run_three_of_tokens hs (tokenInstr_of_fsmState hfsm hf ha hla)
    (tokenInstr_of_fsmState (f := .waitMarkSecond) rfl hf hb hlb) (tokenInstr_of_fsmState (f := .waitMarkThird) rfl hf hc hlc)]
  simp [StateAt.after, rowOf, fieldsAfter, eventsOf, raisedAfter, freeCountAfter, hfsm]

/-- Settles O14: the words of WM1_S and WM1_M, and their next states. -/
theorem shortAndMediumAreIgnoredBeforeAMarker : Obligations.ShortAndMediumAreIgnoredBeforeAMarker :=
  ⟨and_mask_eq_iff_decode .waitMarkFirst .short fun _ _ => rfl,
    and_mask_eq_iff_decode .waitMarkFirst .medium fun _ _ => rfl,
    fun _ s f g => ⟨exec_eq (.wm1S f g) s, exec_eq (.wm1M f g) s⟩⟩

/-- Settles O16: the words of WM2_S, WM3_S and WM3_M, the Error event's payload and class, and the next states. -/
theorem badMarkerIsReportedAndResynchronised : Obligations.BadMarkerIsReportedAndResynchronised :=
  ⟨and_mask_eq_iff_decode .waitMarkSecond .short fun _ _ => rfl,
    and_mask_eq_iff_decode .waitMarkThird .short fun _ _ => rfl,
    and_mask_eq_iff_decode .waitMarkThird .medium fun _ _ => rfl,
    rfl, rfl,
    fun _ s f g => ⟨exec_eq (.wm2S f g) s, exec_eq (.wm3S f g) s, exec_eq (.wm3M f g) s⟩⟩

/-- Settles O17: the words of WM2_L and its next state. -/
theorem secondLongLeadsToTheEndMarker : Obligations.SecondLongLeadsToTheEndMarker :=
  ⟨and_mask_eq_iff_decode .waitMarkSecond .long fun _ _ => rfl, fun _ s f g => exec_eq (.wm2L f g) s⟩

/-- Settles O18: the words of WM2_M and WM3_L, the labels' payloads, and the next states. -/
theorem markersAreAccepted : Obligations.MarkersAreAccepted :=
  ⟨and_mask_eq_iff_decode .waitMarkSecond .medium fun _ _ => rfl,
    and_mask_eq_iff_decode .waitMarkThird .long fun _ _ => rfl,
    rfl, rfl,
    fun _ s f g => ⟨exec_eq (.wm2M f g) s, exec_eq (.wm3L f g) s⟩⟩

end Sys2Proof.Machine
end

section
/-! PROOFS. The words of the rows of `ReadBitsSecond`, which name the stored pulse (30_encoding.md R62, R64; masks 0xFB and
0xF3). -/

namespace Sys2Proof

theorem dwFop_dwWord : ∀ (c : BitVec 3) (f : BitVec 2) (g : Bool) (t : BitVec 2), dwFop (dwWord c f g t) = f := by decide

/-- R62: a dispatch word determines its four fields. -/
theorem dwWord_inj {c c' : BitVec 3} {f f' : BitVec 2} {g g' : Bool} {t t' : BitVec 2} :
    dwWord c f g t = dwWord c' f' g' t' ↔ c = c' ∧ f = f' ∧ g = g' ∧ t = t' := by
  constructor
  · intro h
    have hc := congrArg dwState h
    have hf := congrArg dwFop h
    have hg := congrArg (BitVec.getLsbD · 2) h
    have ht := congrArg dwPtype h
    rw [dwState_dwWord, dwState_dwWord] at hc
    rw [dwFop_dwWord, dwFop_dwWord] at hf
    rw [dwPtype_dwWord, dwPtype_dwWord] at ht
    simp only [Machine.dwWord_geMin] at hg
    exact ⟨hc, hf, hg, ht⟩
  · rintro ⟨rfl, rfl, rfl, rfl⟩
    rfl

/-- The mask 0xFB clears `ge_min` alone. -/
theorem dwWord_and_pairMask : ∀ (c : BitVec 3) (f : BitVec 2) (g : Bool) (t : BitVec 2),
    dwWord c f g t &&& 0xFB#8 = dwWord c f false t := by decide

/-- The mask 0xF3 clears `ge_min`, and of the stored pulse all but the bit that says there is one. -/
theorem dwWord_and_noPulseMask : ∀ (c : BitVec 3) (f : BitVec 2) (g : Bool) (t : BitVec 2),
    dwWord c f g t &&& 0xF3#8 = dwWord c (f &&& 0b10#2) false t := by decide

/-- R55: the codes with bit 1 clear, which hold no pulse. -/
theorem fop_holds_none_iff : ∀ f : BitVec 2, f &&& 0b10#2 = 0#2 ↔ ∃ l, 0#1 ++ BitVec.ofBool l = f := by decide

/-- R64: the words of `ReadBitsSecond` with the stored pulse `p` and the pulse type `t` are those of the pair's operation. -/
theorem and_pairMask_eq_iff_decode (p : FirstOfPair) (t : PulseType) {op : Bool → Instr}
    (hop : ∀ g, encode (op g) = .dw (dwWord FsmState.readBitsSecond.code p.code g t.code)) (w : BitVec 8) :
    w &&& 0xFB#8 = dwWord FsmState.readBitsSecond.code p.code false t.code ↔ ∃ g, decode (.dw w) = .ok (op g) := by
  simp only [decode_eq_ok_iff, hop, InstrWord.dw.injEq]
  rw [← dwWord_fields w, dwWord_and_pairMask]
  simp only [dwWord_inj, true_and]
  constructor
  · rintro ⟨hc, hf, ht⟩
    exact ⟨_, hc.symm, hf.symm, rfl, ht.symm⟩
  · rintro ⟨g, hc, hf, -, ht⟩
    exact ⟨hc.symm, hf.symm, ht.symm⟩

/-- R64, R101 to R103: the words of `ReadBitsSecond` with no stored pulse and the pulse type `t` are those of its RB2_X row. -/
theorem and_noPulseMask_eq_iff_decode (t : PulseType) {op : Bool → Bool → Instr}
    (hop : ∀ l g, encode (op l g) = .dw (dwWord FsmState.readBitsSecond.code (0#1 ++ BitVec.ofBool l) g t.code))
    (w : BitVec 8) :
    w &&& 0xF3#8 = dwWord FsmState.readBitsSecond.code 0#2 false t.code ↔ ∃ l g, decode (.dw w) = .ok (op l g) := by
  simp only [decode_eq_ok_iff, hop, InstrWord.dw.injEq]
  rw [← dwWord_fields w, dwWord_and_noPulseMask]
  simp only [dwWord_inj, fop_holds_none_iff, true_and]
  constructor
  · rintro ⟨hc, ⟨l, hl⟩, ht⟩
    exact ⟨l, _, hc.symm, hl, rfl, ht.symm⟩
  · rintro ⟨l, g, hc, hl, -, ht⟩
    exact ⟨hc.symm, ⟨l, hl⟩, ht.symm⟩

end Sys2Proof
end

section
/-! PROOFS. The twelve operations of the bit-reading states (42_bit_states.md R90 to R103). -/

namespace Sys2Proof.Machine

variable {w : Widths}

/-- R94: the printable bytes, on the byte as a natural number. -/
theorem asciiOf_eq (v : Byte) : asciiOf v = if 0x20 ≤ v.toNat ∧ v.toNat ≤ 0x7E then v else 0x2E#8 := rfl

/-- R104: the shifted bit as a number. -/
theorem bitAt_eq : ∀ (b : Bool) (i : BitVec 3), bitAt b i = if b then BitVec.ofNat 8 (2 ^ i.toNat) else 0x00#8 := by
  decide

/-- R95, R96: the operation that completes a pair with the bit `b`. -/
theorem exec_completedPair (b g : Bool) (s : StateAt w) :
    exec (if b then .rb2MS g else .rb2SM g) ⟨w, s⟩ = .next ⟨w, { s with
      st := s.st.accum b
      events := s.events ++
        ⟨.pulse (if b then .short else .medium), s.token.start, s.token.stop⟩ :: pairEvents b s.st s.token }⟩ := by
  cases b with
  | false => exact exec_eq (.rb2SM g) s
  | true => exact exec_eq (.rb2MS g) s

/-- Settles O19: the words of RB1_S and RB1_M, the codes of the stored pulses, and the next states. -/
theorem firstPulseOfAPairIsStored : Obligations.FirstPulseOfAPairIsStored :=
  ⟨and_mask_eq_iff_decode .readBitsFirst .short fun _ _ => rfl,
    and_mask_eq_iff_decode .readBitsFirst .medium fun _ _ => rfl,
    rfl, rfl,
    fun _ s f g => ⟨exec_eq (.rb1S f g) s, exec_eq (.rb1M f g) s⟩⟩

/-- Settles O20: the words of RB1_L, the Error event's payload and class, and the next state. -/
theorem longInsteadOfAPairDiscardsTheByte : Obligations.LongInsteadOfAPairDiscardsTheByte :=
  ⟨and_mask_eq_iff_decode .readBitsFirst .long fun _ _ => rfl, rfl, rfl, fun _ s f g => exec_eq (.rb1L f g) s⟩

/-- Settles O21: ACCUM before and at the eighth bit, where `bit_index` wraps to 0. -/
theorem aCompletedPairAccumulatesItsBit : Obligations.ACompletedPairAccumulatesItsBit := by
  refine ⟨and_pairMask_eq_iff_decode .short .medium fun _ => rfl, and_pairMask_eq_iff_decode .medium .short fun _ => rfl,
    fun w s g b byte hbyte => ?_⟩
  rw [← bitAt_eq] at hbyte
  subst hbyte
  rw [exec_completedPair]
  constructor
  · intro h
    simp [DecoderState.accum, pairEvents, h]
  · intro h
    simp [DecoderState.accum, pairEvents, h, asciiOf_eq]

/-- Settles O22: the words of the seven rows, the Error event's payload and class, and the next state, row by row. -/
theorem aBadPairDiscardsTheByte : Obligations.ABadPairDiscardsTheByte := by
  refine ⟨and_pairMask_eq_iff_decode .short .short fun _ => rfl, and_pairMask_eq_iff_decode .medium .medium fun _ => rfl,
    and_pairMask_eq_iff_decode .short .long fun _ => rfl, and_pairMask_eq_iff_decode .medium .long fun _ => rfl,
    and_noPulseMask_eq_iff_decode .short fun _ _ => rfl, and_noPulseMask_eq_iff_decode .medium fun _ _ => rfl,
    and_noPulseMask_eq_iff_decode .long fun _ _ => rfl, rfl, rfl, fun i p l g hrow w s => ?_⟩
  simp only [List.mem_cons, Prod.mk.injEq, List.not_mem_nil, or_false] at hrow
  obtain ⟨rfl, rfl⟩ | ⟨rfl, rfl⟩ | ⟨rfl, rfl⟩ | ⟨rfl, rfl⟩ | ⟨rfl, rfl⟩ | ⟨rfl, rfl⟩ | ⟨rfl, rfl⟩ := hrow <;>
    exact exec_eq _ s

/-- Settles O26: inside the printable range and outside it. -/
theorem asciiPayload : Obligations.AsciiPayload := by
  intro v
  rw [asciiOf_eq]
  exact ⟨fun h => if_pos h, fun h => if_neg (by omega)⟩

end Sys2Proof.Machine
end

section
/-! PROOFS. What each operation and each step adds to the output stream (43_step_and_glitch.md R112, R113; 20_memory.md R42). -/

namespace Sys2Proof.Machine

variable {w : Widths}

/-- R93: the kinds of ACCUM's events, before and at the eighth bit. -/
theorem kinds_pairEvents (b : Bool) (d : DecoderState w) (x : Token w) :
    (pairEvents b d x).map (fun e => e.body.kind) = if d.bitIndex = 7#3 then [.bit, .byte, .ascii] else [.bit] := by
  by_cases h : d.bitIndex = 7#3 <;> simp [pairEvents, EventBody.kind, h]

/-- R112. -/
theorem kinds_eventsOf (i : Instr) (d : DecoderState w) (x : Token w) :
    (eventsOf i d x).map (fun e => e.body.kind) = eventKindsOf i d.bitIndex := by
  cases i with
  | rb2SM g | rb2MS g =>
    simp only [eventsOf, List.map_cons, kinds_pairEvents, eventKindsOf]
    split <;> rfl
  | _ => rfl

/-- Settles O28: what an operation appends is its list of events, whose kinds are those of R112. -/
theorem eventsOfEachOperation : Obligations.EventsOfEachOperation := by
  intro w i s t h
  rw [exec_eq, next_mk_inj] at h
  subst h
  exact ⟨eventsOf i s.st s.token, rfl, kinds_eventsOf i s.st s.token⟩

/-- R113: the time range of an event that a step from `s` emits. -/
def HasItsTimeRange (s : StateAt w) (e : Event w) : Prop := e.start = rangeStartOf e.body.kind s ∧ e.stop = s.token.stop

theorem hasItsTimeRange_pairEvents (b : Bool) (s : StateAt w) :
    ∀ e ∈ pairEvents b s.st s.token, HasItsTimeRange s e := by
  by_cases h : s.st.bitIndex = 7#3 <;> simp [pairEvents, HasItsTimeRange, rangeStartOf, EventBody.kind, h]

theorem hasItsTimeRange_eventsOf (i : Instr) (s : StateAt w) : ∀ e ∈ eventsOf i s.st s.token, HasItsTimeRange s e := by
  cases i with
  | rb2SM g => exact List.forall_mem_cons.2 ⟨⟨rfl, rfl⟩, hasItsTimeRange_pairEvents false s⟩
  | rb2MS g => exact List.forall_mem_cons.2 ⟨⟨rfl, rfl⟩, hasItsTimeRange_pairEvents true s⟩
  | _ => simp [eventsOf, HasItsTimeRange, rangeStartOf, EventBody.kind]

/-- Settles O29: what stands after the stream so far is the operation's list of events. -/
theorem timeRangesOfEvents : Obligations.TimeRangesOfEvents := by
  intro w i s t h e he
  rw [exec_eq, next_mk_inj] at h
  subst h
  rw [StateAt.after_events, List.drop_left] at he
  exact hasItsTimeRange_eventsOf i s e he

/-- R112: the longest list is that of an eighth bit, and no list repeats a kind. -/
theorem eventKindsOf_length_le_and_nodup (i : Instr) (idx : BitVec 3) :
    (eventKindsOf i idx).length ≤ 4 ∧ (eventKindsOf i idx).Nodup := by
  cases i with
  | rb2SM g | rb2MS g => by_cases h : idx = 7#3 <;> simp [eventKindsOf, h]
  | _ => simp [eventKindsOf]

/-- R112, R42: what one operation, and so one step, may append to the output stream. -/
def EmitsFewEvents (s t : StateAt w) : Prop :=
  ∃ new : List (Event w), t.events = s.events ++ new ∧ new.length ≤ 4 ∧ (new.map (fun e => e.body.kind)).Nodup

theorem emitsFewEvents_after (s : StateAt w) (i : Instr) : EmitsFewEvents s (s.after i) := by
  obtain ⟨hlength, hnodup⟩ := eventKindsOf_length_le_and_nodup i s.st.bitIndex
  rw [← kinds_eventsOf i s.st s.token] at hlength hnodup
  exact ⟨eventsOf i s.st s.token, rfl, by simpa using hlength, hnodup⟩

/-- Settles O30: a step waits, or samples its inputs, which emits nothing, and runs one operation. -/
theorem aStepEmitsAtMostFourEvents : Obligations.AStepEmitsAtMostFourEvents := by
  intro w s t h
  cases stepped_of_step h with
  | waits => exact ⟨[], by simp⟩
  | resets c rest hs => exact emitsFewEvents_after (s.latch (.reset c) rest) _
  | takes x rest hs => exact emitsFewEvents_after (s.latch (.token x) rest) _

end Sys2Proof.Machine
end

section
/-! PROOFS. A step runs one operation, the one its two words decode to, and always answers a next state
(43_step_and_glitch.md R105; 30_encoding.md R63, R66). -/

namespace Sys2Proof.Machine

variable {w : Widths}

/-- Settles O34: with nothing presented the state is held, and every token and every reset has its next state. -/
theorem everyStepAnswersANextState : Obligations.EveryStepAnswersANextState := by
  intro w s
  cases hs : s.stimuli with
  | nil => exact ⟨_, step_of_nothing_presented hs⟩
  | cons y rest =>
    cases y with
    | token x => exact ⟨_, step_of_token hs⟩
    | reset c => exact ⟨_, step_of_reset hs⟩

/-- R63: the control word selects first. -/
theorem StateAt.fetch_of_ctl {s : StateAt w} {i : Instr} (h : decode (.ctl s.controlWord) = .ok i) : s.fetch = .ok i := by
  simp only [StateAt.fetch, h]

/-- R63: where the control word selects no operation, the dispatch word does. -/
theorem StateAt.fetch_of_dw {s : StateAt w} {i : Instr} {e : DecodeError} (hc : decode (.ctl s.controlWord) = .error e)
    (hd : decode (.dw s.dispatchWord) = .ok i) : s.fetch = .ok i := by
  simp only [StateAt.fetch, hc, hd]

theorem step_of_fetch {s : StateAt w} {y : Stimulus w} {rest : List (Stimulus w)} {i : Instr} (hs : s.stimuli = y :: rest)
    (hi : (s.latch y rest).fetch = .ok i) : step ⟨w, s⟩ = exec i ⟨w, s.latch y rest⟩ := by
  rw [step_of_presented hs]
  simp only [runLatched, hi]

/-- Settles O32: the state is held, or the operation fetched from the sampled state is run on it. -/
theorem aStepRunsTheDecodedOperation : Obligations.AStepRunsTheDecodedOperation := by
  refine ⟨fun w s hs => step_of_nothing_presented hs, fun w s x rest i hs s' hs' => ?_, fun w s c rest i hs s' hs' hc => ?_⟩
  · rw [← StateAt.latch_token] at hs'
    subst hs'
    exact ⟨fun hc => step_of_fetch hs (StateAt.fetch_of_ctl hc), fun hc hd => step_of_fetch hs (StateAt.fetch_of_dw hc hd)⟩
  · rw [← StateAt.latch_reset] at hs'
    subst hs'
    exact step_of_fetch hs (StateAt.fetch_of_ctl hc)

end Sys2Proof.Machine
end

section
/-! PROOFS. The words of the glitch rows and of the control rows (30_encoding.md R62 to R64). -/

namespace Sys2Proof

/-- The mask 0x07 keeps `ge_min` and the pulse type. -/
theorem dwWord_and_glitchMask : ∀ (c : BitVec 3) (f : BitVec 2) (g : Bool) (t : BitVec 2),
    dwWord c f g t &&& 0x07#8 = dwWord 0#3 0#2 g t := by decide

/-- R64: the words of an Invalid pulse with `ge_min` = `g`, in any state, are those of its glitch row. -/
theorem and_glitchMask_eq_iff_decode (g : Bool) {op : BitVec 3 → BitVec 2 → Instr}
    (hop : ∀ c f, encode (op c f) = .dw (dwWord c f g PulseType.invalid.code)) (w : BitVec 8) :
    w &&& 0x07#8 = dwWord 0#3 0#2 g PulseType.invalid.code ↔ ∃ c f, decode (.dw w) = .ok (op c f) := by
  simp only [decode_eq_ok_iff, hop, InstrWord.dw.injEq]
  rw [← dwWord_fields w, dwWord_and_glitchMask]
  simp only [dwWord_inj, true_and]
  constructor
  · rintro ⟨hg, ht⟩
    exact ⟨_, _, rfl, rfl, hg.symm, ht.symm⟩
  · rintro ⟨c, f, -, -, hg, ht⟩
    exact ⟨hg.symm, ht.symm⟩

/-- R63: the control words with `rst` = 1. -/
theorem and_rst_eq_iff : ∀ w : BitVec 3, w &&& 0b100#3 = 0b100#3 ↔ ∃ f k, cwWord true f k = w := by decide

/-- R63: the control words with `rst` = 0 and `faulted` = 1. -/
theorem and_rst_faulted_eq_iff : ∀ w : BitVec 3, w &&& 0b110#3 = 0b010#3 ↔ ∃ k, cwWord false true k = w := by decide

theorem reset_words_iff_decode (w : BitVec 3) :
    w &&& 0b100#3 = 0b100#3 ↔ ∃ f k, decode (.ctl w) = .ok (.reset f k) := by
  simp only [decode_eq_ok_iff, encode, InstrWord.ctl.injEq, and_rst_eq_iff]

theorem fhold_words_iff_decode (w : BitVec 3) : w &&& 0b110#3 = 0b010#3 ↔ ∃ k, decode (.ctl w) = .ok (.fhold k) := by
  simp only [decode_eq_ok_iff, encode, InstrWord.ctl.injEq, and_rst_faulted_eq_iff]

theorem norate_word_iff_decode (w : BitVec 3) : w = 0b000#3 ↔ decode (.ctl w) = .ok .norate := by
  rw [decode_eq_ok_iff, encode, InstrWord.ctl.injEq]
  exact eq_comm

end Sys2Proof
end

section
/-! PROOFS. The glitches and the control operations (43_step_and_glitch.md R107 to R111). -/

namespace Sys2Proof.Machine

variable {w : Widths}

/-- An operation without events leaves the output stream alone. -/
theorem exec_of_silent {i : Instr} {s : StateAt w} (h : eventsOf i s.st s.token = []) :
    exec i ⟨w, s⟩ = .next ⟨w, { s with
      st := fieldsAfter i s.st s.token s.freeCount
      raised := raisedAfter i s.raised
      freeCount := freeCountAfter i s.freeCount }⟩ := by
  rw [exec_eq, StateAt.after, h, List.append_nil]

/-- Settles O23: the words of the two rows, the Error event's payload and class, and the next states. -/
theorem glitchesResynchronise : Obligations.GlitchesResynchronise :=
  ⟨and_glitchMask_eq_iff_decode false fun _ _ => rfl,
    and_glitchMask_eq_iff_decode true fun _ _ => rfl,
    rfl, rfl,
    fun _ s c f => ⟨exec_of_silent (i := .glitchLo c f) (s := s) rfl, exec_eq (.glitchHi c f) s⟩⟩

/-- Settles O24: the words of the two rows, and the next states, which record the fault (log entry 5). -/
theorem missingSampleRateIsRaisedAndHeld : Obligations.MissingSampleRateIsRaisedAndHeld :=
  ⟨norate_word_iff_decode, fhold_words_iff_decode,
    fun _ s k => ⟨exec_of_silent (i := .norate) (s := s) rfl, exec_of_silent (i := .fhold k) (s := s) rfl⟩⟩

/-- Settles O25: the words of RESET, and its next state, with the two free values (log entry 4) in the time stamps. -/
theorem resetOperationGivesTheResetState : Obligations.ResetOperationGivesTheResetState :=
  ⟨reset_words_iff_decode, fun _ s f k => ⟨_, _, _, exec_of_silent (i := .reset f k) (s := s) rfl⟩⟩

end Sys2Proof.Machine
end

section
/-! PROOFS. The order of the conditions of a step, and the Invalid pulse (60_exceptions.md R125, R128). -/

namespace Sys2Proof.Machine

variable {w : Widths}

/-- R105: a token's step is the operation that the token selects. -/
theorem step_eq_exec_of_token {s : StateAt w} {x : Token w} {rest : List (Stimulus w)} {i : Instr}
    (h : s.stimuli = .token x :: rest) (hi : tokenInstr s.st s.cfg x = i) :
    step ⟨w, s⟩ = exec i ⟨w, s.latch (.token x) rest⟩ := by
  rw [step_of_token h, exec_eq, hi]

theorem step_eq_exec_of_reset {s : StateAt w} {c : ThresholdConfig w} {rest : List (Stimulus w)}
    (h : s.stimuli = .reset c :: rest) :
    step ⟨w, s⟩ = exec (.reset s.st.faulted s.token.rateOk) ⟨w, s.latch (.reset c) rest⟩ := by
  rw [step_of_reset h, exec_eq]

section
variable {d : DecoderState w} {c : ThresholdConfig w} {x : Token w}

/-- R128: outside a fault, a token without a sample rate is not looked at. -/
theorem tokenInstr_of_missingRate (hf : d.faulted = false) (hx : x.rateOk = false) : tokenInstr d c x = .norate :=
  (tokenInstr_eq_norate_iff d c x).2 ⟨hf, hx⟩

/-- R64: the state and the stored pulse do not choose an Invalid pulse's row. -/
theorem rowOf_invalid (f : FsmState) (q : FirstOfPair) (g : Bool) :
    rowOf f q g .invalid = if g then .glitchHi f.code q.code else .glitchLo f.code q.code := rfl

/-- R107: below the window. -/
theorem tokenInstr_of_below (hf : d.faulted = false) (hx : x.rateOk = true) (h : x.us < c.minValidUs) :
    tokenInstr d c x = .glitchLo d.fsmState.code d.firstOfPair.code := by
  obtain ⟨hinvalid, hg⟩ := (invalid_low_iff c x.us).2 h
  rw [tokenInstr_of_class hf hx hinvalid, hg, rowOf_invalid]
  rfl

/-- R108: above the window, and not below it. -/
theorem tokenInstr_of_above (hf : d.faulted = false) (hx : x.rateOk = true) (hmin : c.minValidUs ≤ x.us)
    (hmax : c.maxValidUs < x.us) : tokenInstr d c x = .glitchHi d.fsmState.code d.firstOfPair.code := by
  obtain ⟨hinvalid, hg⟩ := (invalid_high_iff c x.us).2 ⟨hmin, hmax⟩
  rw [tokenInstr_of_class hf hx hinvalid, hg, rowOf_invalid]
  rfl

/-- R128 (5): a pulse not below the window selects the row of its class, with `ge_min` = 1. -/
theorem tokenInstr_of_geMin (hf : d.faulted = false) (hx : x.rateOk = true) (hmin : c.minValidUs ≤ x.us) :
    tokenInstr d c x = rowOf d.fsmState d.firstOfPair true (classify c x.us) := by
  rw [tokenInstr_of_class hf hx rfl, (geMin_iff c x.us).2 hmin]

end

/-- R30: the valid window is not empty. -/
theorem minValidUs_lt_maxValidUs {n : Nat} {c : Thresholds n} (h : c.Legal) :
    c.minValidUs < c.maxValidUs := by
  obtain ⟨hmin, hmax, -, -⟩ := h
  rw [BitVec.lt_def]
  omega

/-- R125: under R30 an Invalid pulse is over the minimum exactly when it is over the maximum. -/
theorem minValidUs_le_iff_of_invalid {n : Nat} {c : Thresholds n} {us : BitVec n} (hlegal : c.Legal)
    (h : classify c us = .invalid) : c.minValidUs ≤ us ↔ c.maxValidUs < us := by
  have hwindow := minValidUs_lt_maxValidUs hlegal
  rw [classify_eq_invalid_iff] at h
  rw [BitVec.lt_def] at hwindow
  rw [BitVec.le_def, BitVec.lt_def]
  omega

/-- Settles O33: a step is its operation's, and each condition selects that operation; R30 keeps below and above the window
apart. -/
theorem priorityOfConditions : Obligations.PriorityOfConditions := by
  refine ⟨fun w s c rest hs => ⟨_, _, step_eq_exec_of_reset hs⟩, fun w s s' x rest hs hlegal hs' => ?_⟩
  rw [← StateAt.latch_token] at hs'
  subst hs'
  refine ⟨fun hf => ⟨_, step_eq_exec_of_token hs (tokenInstr_of_faulted hf _ _)⟩,
    fun hf hx => step_eq_exec_of_token hs (tokenInstr_of_missingRate hf hx),
    fun hf hx => ⟨fun hlow => ⟨_, _, step_eq_exec_of_token hs (tokenInstr_of_below hf hx hlow)⟩,
      fun hhigh => ⟨_, _, step_eq_exec_of_token hs (tokenInstr_of_above hf hx ?_ hhigh)⟩,
      fun hmin _ => step_eq_exec_of_token hs (tokenInstr_of_geMin hf hx hmin)⟩⟩
  exact BitVec.le_of_lt (BitVec.lt_trans (minValidUs_lt_maxValidUs hlegal) hhigh)

/-- Settles O40: GLITCH_HI over the window, GLITCH_LO below it. -/
theorem anInvalidPulseInAnyState : Obligations.AnInvalidPulseInAnyState := by
  intro w s x rest hs hf hx hlegal hinvalid
  have hover := minValidUs_le_iff_of_invalid hlegal hinvalid
  refine ⟨?_, hover⟩
  rw [step_of_token hs]
  by_cases hmin : s.cfg.minValidUs ≤ x.us
  · rw [tokenInstr_of_above hf hx hmin (hover.1 hmin), if_pos hmin]
    rfl
  · rw [tokenInstr_of_below hf hx (BitVec.not_le.1 hmin), if_neg hmin]
    rfl

end Sys2Proof.Machine
end

section
/-! PROOFS. What every reported error does (60_exceptions.md R129, R131). -/

namespace Sys2Proof.Machine

variable {w : Widths} {i : Instr} {d : DecoderState w} {x : Token w} {n : Nat}

/-- R129: an operation that reports an error writes `fsm_state`, and of the other fields at most `first_of_pair`. -/
theorem fieldsAfter_of_error (h : .error ∈ eventKindsOf i d.bitIndex) :
    fieldsAfter i d x n =
      { d with fsmState := .waitMarkFirst, firstOfPair := (fieldsAfter i d x n).firstOfPair } := by
  cases i with
  | wm2S | wm3S | wm3M | rb1L | rb2SS | rb2MM | rb2SL | rb2ML | rb2XS | rb2XM | rb2XL | glitchHi => rfl
  | rb2SM | rb2MS => by_cases hlast : d.bitIndex = 7#3 <;> simp [eventKindsOf, hlast] at h
  | _ => simp [eventKindsOf] at h

/-- R129: an operation that reports an error stores no first pulse: it clears the one held, or leaves it. -/
theorem firstOfPair_of_error (h : .error ∈ eventKindsOf i d.bitIndex) :
    (fieldsAfter i d x n).firstOfPair = .none ∨ (fieldsAfter i d x n).firstOfPair = d.firstOfPair := by
  by_contra hstored
  obtain ⟨hheld, hchanged⟩ := not_or.1 hstored
  obtain ⟨f, g, rfl⟩ | ⟨f, g, rfl⟩ := holder_of_firstOfPair hchanged hheld <;> simp [eventKindsOf] at h

/-- R95 to R103, R107, R108: every row of `ReadBitsSecond` clears the first pulse. -/
theorem firstOfPair_of_row_in_pair (hf : d.fsmState = .readBitsSecond) (g : Bool) (p : PulseType) :
    (fieldsAfter (rowOf d.fsmState d.firstOfPair g p) d x n).firstOfPair = .none := by
  rw [hf]
  cases d.firstOfPair <;> cases p <;> cases g <;> rfl

/-- R129: from a state of R33 (a), a token that reports an error leaves no first pulse held. -/
theorem firstOfPair_of_token_error {c : ThresholdConfig w} (hd : d.HoldsFirstExactlyInPair)
    (h : .error ∈ eventKindsOf (tokenInstr d c x) d.bitIndex) :
    (fieldsAfter (tokenInstr d c x) d x n).firstOfPair = .none := by
  by_cases hf : d.fsmState = .readBitsSecond
  · obtain ⟨-, hi⟩ | ⟨-, -, hi⟩ | ⟨-, -, hi⟩ := tokenInstr_cases d c x
    · simp [hi, eventKindsOf] at h
    · simp [hi, eventKindsOf] at h
    · rw [hi]; exact firstOfPair_of_row_in_pair hf _ _
  · exact (firstOfPair_of_error h).elim id fun hkept => hkept.trans (hd.2 hf)

/-- Settles O41: a step's new events are those of the one operation it runs. RESET emits none, and a token's operation that
reports an error resynchronises. -/
theorem everyReportedErrorResynchronises : Obligations.EveryReportedErrorResynchronises := by
  intro w s t e hstep he hk
  cases stepped_of_step hstep with
  | waits => simp at he
  | resets c rest hs => simp [eventsOf] at he
  | takes x rest hs =>
    replace he : e ∈ eventsOf (tokenInstr s.st s.cfg x) s.st x := by simpa using he
    have hreports : .error ∈ eventKindsOf (tokenInstr s.st s.cfg x) s.st.bitIndex := by
      rw [← kinds_eventsOf _ s.st x, ← hk]
      exact List.mem_map_of_mem he
    obtain ⟨hstart, hstop⟩ := hasItsTimeRange_eventsOf _ (s.latch (.token x) rest) e he
    rw [hk] at hstart
    simp only [StateAt.after_st, StateAt.after_token, StateAt.latch_token]
    refine ⟨?_, ?_, ?_, ?_, ?_, ?_, hstart, hstop, fun hd => firstOfPair_of_token_error hd hreports⟩ <;>
      rw [fieldsAfter_of_error hreports]

end Sys2Proof.Machine
end

section
/-! PROOFS. What a cycle of the ports does to the output stream and to the block (70_reset_and_hazards.md R151). -/

namespace Sys2Proof.Machine

variable {w : Widths} {b : StateAt w} {d : Nat} {started : Bool} {i : PortIn w}

/-- R151: a cycle that is not refused answers a next state whose output stream continues the one before. -/
theorem PortState.cycle_extends (hs : i.rst = true ∨ started = false ∨ i.cfg = b.cfg) :
    ∃ (c : StateAt w) (started' : Bool),
      PortState.cycle ⟨⟨w, b⟩, d, started⟩ i =
        .next ⟨⟨w, c⟩, PortState.deliveredAfter ⟨⟨w, b⟩, d, started⟩ i, started'⟩ ∧
      ∃ new, c.events = b.events ++ new := by
  cases hr : i.rst with
  | true => exact ⟨_, _, PortState.cycle_of_rst hr, _, rfl⟩
  | false =>
    by_cases hn : i.inValid = true ∧ b.events.drop d = []
    · obtain ⟨hv, hnone⟩ := hn
      exact ⟨_, _, PortState.cycle_of_token hr hv hnone (hs.resolve_left (by simp [hr])), _, rfl⟩
    · exact ⟨_, _, PortState.cycle_of_idle hr hn, [], (List.append_nil _).symm⟩

/-- The sink takes no more events than there are. -/
theorem PortState.deliveredAfter_le (h : d ≤ b.events.length) :
    PortState.deliveredAfter ⟨⟨w, b⟩, d, started⟩ i ≤ b.events.length := by
  rw [PortState.deliveredAfter_mk]
  split
  case isTrue htaken => simpa using htaken.2
  case isFalse => exact h

/-- R151: the events taken after a cycle are those taken before and the one taken in it. -/
theorem PortState.take_deliveredAfter :
    b.events.take (PortState.deliveredAfter ⟨⟨w, b⟩, d, started⟩ i) =
      b.events.take d ++ if i.evReady then (b.events.drop d).head?.toList else [] := by
  rw [PortState.deliveredAfter_mk]
  cases i.evReady with
  | false => simp
  | true =>
    by_cases hnone : b.events.drop d = []
    · simp [hnone]
    · simp [hnone, List.take_add_one]

/-- Settles O47: what a cycle adds to the stream stands after the events that can be taken in it. -/
theorem portsDeliverEveryEventInOrder : Obligations.PortsDeliverEveryEventInOrder := by
  intro w b d started i hd hs
  obtain ⟨c, started', hcycle, new, hnew⟩ := PortState.cycle_extends (d := d) hs
  have hle : PortState.deliveredAfter ⟨⟨w, b⟩, d, started⟩ i ≤ b.events.length := PortState.deliveredAfter_le hd
  refine ⟨c, _, started', hcycle, ⟨new, hnew⟩, ?_, ?_⟩
  · rw [hnew, List.length_append]
    exact Nat.le_add_right_of_le hle
  · rw [hnew, List.take_append_of_le_length hle, PortState.take_deliveredAfter]

/-- R39: `edge_sel` by the polarity on the configuration inputs. -/
theorem edgeSel_eq {n : Nat} (c : Thresholds n) :
    edgeSel c = match c.polarity with | .read => 0#1 | .write => 1#1 := by
  unfold edgeSel
  cases c.polarity <;> rfl

/-- Settles O48: each of the three cycles that are not refused is the block's step on what it accepts, or none. -/
theorem aPortCycleIsAtMostOneStep : Obligations.APortCycleIsAtMostOneStep := by
  intro w b d started i p d'
  have hd' : p.deliveredAfter i = d' := PortState.deliveredAfter_mk b d started i
  have hready : (p.out i).inReady = true ↔ b.events.drop d = [] ∧ i.rst = false := PortState.inReady_mk b d started i
  refine ⟨hready, Iff.rfl, edgeSel_eq i.cfg, ?reset, ?token, ?idle⟩
  case reset =>
    intro hr
    exact ⟨_, step_of_reset rfl, hd' ▸ PortState.cycle_of_rst hr⟩
  case token =>
    intro hv hin hs
    obtain ⟨hnone, hr⟩ := hready.1 hin
    exact ⟨_, step_of_token rfl, hd' ▸ PortState.cycle_of_token hr hv hnone hs⟩
  case idle =>
    intro hr hn
    have hidle : ¬ (i.inValid = true ∧ b.events.drop d = []) := fun ⟨hv, hnone⟩ => by
      simp [hv, hready.2 ⟨hnone, hr⟩] at hn
    exact hd' ▸ PortState.cycle_of_idle hr hidle

end Sys2Proof.Machine
end
